-- ==== Sys2Proof/Word.lean ====
section
/-! DEFINITION. The machine's words: a 32-bit register word, a byte (one symbol), and a GF(2) coefficient
vector (00_scope.md R10 WORD, R14, R18). -/

namespace Sys2Proof

/-- A host-visible register value, a command word, or one packed word (00_scope.md R10, WORD = 32). -/
abbrev Word := BitVec 32

/-- One byte of a buffer: one symbol (00_scope.md R18). -/
abbrev Byte := BitVec 8

/-- A GF(2) polynomial as the vector of its coefficients, index i the coefficient of x^i; the empty vector is
the zero polynomial (00_scope.md R14). -/
abbrev Poly := List Bool

end Sys2Proof
end

