-- ==== Sys2Proof/Config.lean ====
section
/-! DEFINITION. What an implementation or a platform fixes and the spec leaves open (00_scope.md R10), and the
free values. No constant here has a body: nothing can be proved of its value. The parameters of R10 reach the
machine through State (its fields rom and params), so that a statement about every state holds for every value of
them; State.reset takes them from here. -/

namespace Sys2Proof

/-- FREE VALUE (log entry 5): the draw of a read of a byte that no write has stored (20_memory.md R69), and of a
read in breach of the hazard rule (70_reset_and_hazards.md R252). Applied to the counter State.draws. -/
opaque Config.freeByte : Nat → Byte

/-- FREE VALUE (log entry 6): the unspecified words of GEN after reset (10_state.md R43). Applied to the counter
State.draws. -/
opaque Config.freeWord : Nat → Word

/-- OPEN PARAMETER (log entry 8): FACTORS_M12, the factor list of the medium family (42_generator_table.md
R125). -/
opaque Config.factorsM12 : List Poly

/-- The platform's wish for IBUF_BYTES, before R10's bound. -/
opaque Config.rawIbufBytes : Nat

/-- The platform's wish for OBUF_BYTES, before R10's bound. -/
opaque Config.rawObufBytes : Nat

/-- The implementation's wish for MAXLEN, before R10's bound. -/
opaque Config.rawMaxLen : Nat

/-- REG_BASE (20_memory.md R61). -/
opaque Config.regBase : Nat

/-- IBUF_BASE_HOST (20_memory.md R61). -/
opaque Config.ibufBase : Nat

/-- OBUF_BASE_HOST (20_memory.md R61). -/
opaque Config.obufBase : Nat

/-- IBUF_BYTES (00_scope.md R10): any size from the reference table's largest k, 58192, to 2^32 (addresses are 32
bits wide, 20_memory.md R60). -/
def Config.ibufBytes : Nat := max 58192 (min Config.rawIbufBytes (2 ^ 32))

/-- OBUF_BYTES (00_scope.md R10): any size from the reference table's largest n, 58320, to 2^32. -/
def Config.obufBytes : Nat := max 58320 (min Config.rawObufBytes (2 ^ 32))

/-- MAXLEN (00_scope.md R10): any length of at least 193. -/
def Config.maxLen : Nat := max 193 Config.rawMaxLen

end Sys2Proof
end

