-- ==== Sys2Proof/Syntax.lean ====
section
/-! DEFINITION. What can be said to the machine: the commands of spec/opcode_table.json, and the host's
register, buffer and pseudo operations (30_encoding.md). Also the names the spec gives to codes: frame-size
classes, rate labels, code families, registers. -/

namespace Sys2Proof

/-- A command: one constructor per row of spec/opcode_table.json (30_encoding.md R81). Every value of every
field is encodable (R91): an unsupported (class, rate) pair is an outcome of CFG, not an encoding error. -/
inductive Instr where
  /-- `NOP` (30_encoding.md R84). -/
  | nop
  /-- `CFG <class>, <rate>` (30_encoding.md R82): CLASS is bits 9:8 of the word, RATE bits 21:16. -/
  | cfg (cls : BitVec 2) (rate : BitVec 6)
  /-- `WORK` and `WORK.EOF` (30_encoding.md R83): EOF is bit 8 of the word. -/
  | work (eof : Bool)
  deriving DecidableEq, Repr

/-- Why Decode answers "illegal" (30_encoding.md R85): the two cases the rule names. -/
inductive Illegal where
  /-- OP is 0x3 to 0xF. -/
  | reservedOpcode
  /-- OP is 0x0, 0x1 or 0x2 and a bit that R82 to R84 mark reserved is 1. -/
  | reservedBits
  deriving DecidableEq, Repr

/-- What Decode answers (30_encoding.md R93): a command, or illegal, with the reason. -/
inductive Decoded where
  | instr (i : Instr)
  | illegal (why : Illegal)
  deriving DecidableEq, Repr

/-- The frame-size classes (30_encoding.md R89). -/
inductive FrameClass where
  | normal | short | medium
  /-- Class code 3: every CFG with it is unsupported. -/
  | reserved
  deriving DecidableEq, Repr

/-- The rate labels (30_encoding.md R90), in the order of their codes 0 to 50. -/
inductive RateLabel where
  | r1_4 | r1_3 | r2_5 | r1_2 | r3_5 | r2_3 | r3_4 | r4_5 | r5_6
  /-- R7_8, a placeholder. -/
  | r7_8
  | r8_9 | r9_10 | r13_45 | r9_20 | r90_180 | r96_180 | r11_20
  | r100_180 | r104_180 | r26_45 | r18_30 | r28_45 | r23_36 | r116_180 | r20_30 | r124_180 | r25_36
  | r128_180 | r13_18 | r132_180 | r22_30 | r135_180 | r140_180 | r7_9
  | r154_180 | r11_45 | r4_15 | r14_45 | r7_15 | r8_15 | r32_45 | r2_9_vlsnr
  | r1_5_medium | r11_45_medium | r1_3_medium | r1_5_vlsnr_sf2 | r11_45_vlsnr_sf2
  | r1_5_vlsnr | r4_15_vlsnr | r1_3_vlsnr
  /-- R_OTHER, a placeholder. -/
  | rOther
  deriving DecidableEq, Repr

/-- The five code families (42_generator_table.md R120). -/
inductive Family where
  | n12 | n10 | n8 | s12 | m12
  deriving DecidableEq, Repr

/-- The registers of the REG space (10_state.md R24), less the reserved offsets. -/
inductive Reg where
  | id | cmd | status | err | cfg | codeK | codeN | codeInfo
  | inBase | inAvail | outBase | outSpace | consumed | produced | frames
  deriving DecidableEq, Repr

/-- The seven sticky errors of ERR (10_state.md R29). -/
inductive ErrBit where
  | illcmd | ovr | nocfg | range | sym | table | bus
  deriving DecidableEq, Repr

/-- The widths the host's port carries: 8 and 32 bits (20_memory.md R77). -/
inductive Width where
  | byte | word
  deriving DecidableEq, Repr

/-- A place of one of the three spaces a host access can reach (20_memory.md R60). -/
inductive Place where
  /-- A byte offset of REG. -/
  | reg (off : BitVec 12)
  /-- A byte address of IBUF. -/
  | ibuf (a : BitVec 32)
  /-- A byte address of OBUF. -/
  | obuf (a : BitVec 32)
  deriving DecidableEq, Repr

/-- What a host operation names: a place of a space, as in the syntax of 30_encoding.md R95, or an address of
the platform's map, where the three windows stand at their bases (20_memory.md R61). -/
inductive Target where
  | place (p : Place)
  | bus (addr : Nat)
  deriving DecidableEq, Repr

/-- The host's operations (30_encoding.md R95) and the two pseudo-operations of R96 that repeat a read. The
other pseudo-operations expand to lists of these (Sys2Proof/Machine/HostProgram.lean). -/
inductive HostOp where
  /-- RD, LB, LW: one read of the given width. -/
  | read (t : Target) (w : Width)
  /-- WR, SB, SW: one write of the given width; a byte write writes v[7:0]. -/
  | write (t : Target) (w : Width) (v : Word)
  /-- POLL: repeat RD STATUS until BUSY reads 0. -/
  | poll
  /-- WAITINIT: repeat RD STATUS until MODE reads a value other than INIT. -/
  | waitInit
  deriving DecidableEq, Repr

/-- Who makes a step: the host (one operation, or one read of a POLL or WAITINIT), the engine (BUILD or one
completion), or the platform's reset input (10_state.md R20; 70_reset_and_hazards.md R240). -/
inductive Turn where
  | host | engine | reset
  deriving DecidableEq, Repr

end Sys2Proof
end

