-- ==== Sys2Proof/Decode.lean ====
section
/-! DEFINITION. Reading and writing command words: Decode (30_encoding.md R93), total on 32-bit words and
rejecting by name (R85), the encoder (R82 to R84, R94), and the codes the spec gives to classes, rate labels,
families, errors and registers (R89, R90; 42_generator_table.md R120; 10_state.md R24, R29). -/

namespace Sys2Proof

/-- Decode (30_encoding.md R93), with the reason of an illegal word (R85). -/
def decode (v : Word) : Decoded :=
  let op := v.extractLsb' 0 4
  if op = 0x0#4 ∧ v = 0x00000000#32 then .instr .nop
  else if op = 0x1#4 ∧ v &&& 0xFFC0FCFF#32 = 0x00000001#32 then
    .instr (.cfg (v.extractLsb' 8 2) (v.extractLsb' 16 6))
  else if op = 0x2#4 ∧ v &&& 0xFFFFFEFF#32 = 0x00000002#32 then .instr (.work (v.getLsbD 8))
  else if 0x3#4 ≤ op then .illegal .reservedOpcode
  else .illegal .reservedBits

/-- The command word of an instruction (30_encoding.md R82 to R84, R94). -/
def encode : Instr → Word
  | .nop => 0x00000000#32
  | .cfg cls rate => 0x00000001#32 ||| (rate.setWidth 32 <<< 16) ||| (cls.setWidth 32 <<< 8)
  | .work eof => if eof then 0x00000102#32 else 0x00000002#32

/-- The mask of an instruction's row of spec/opcode_table.json (30_encoding.md R82 to R84). -/
def rowMask : Instr → Word
  | .nop => 0xFFFFFFFF#32
  | .cfg _ _ => 0xFFC0FCFF#32
  | .work _ => 0xFFFFFEFF#32

/-- The match value of an instruction's row of spec/opcode_table.json (30_encoding.md R82 to R84). -/
def rowMatch : Instr → Word
  | .nop => 0x00000000#32
  | .cfg _ _ => 0x00000001#32
  | .work _ => 0x00000002#32

/-- The instruction the decoder reads from a word whose bits are w, numbered as spec/opcode_table.json numbers
them. Every row has 32 bits (30_encoding.md R80); bits above nbits are 0. -/
def decodeTableWord (nbits w : Nat) : Option Instr :=
  match decode (BitVec.ofNat 32 (w % 2 ^ min nbits 32)) with
  | .instr i => some i
  | .illegal _ => none

/-- CLASS codes (30_encoding.md R89). -/
def FrameClass.code : FrameClass → BitVec 2
  | .normal => 0
  | .short => 1
  | .medium => 2
  | .reserved => 3

/-- The frame bit-lengths that name the classes; they are not n (30_encoding.md R89; 90_conflicts.md C2). -/
def FrameClass.frameBits : FrameClass → Option Nat
  | .normal => some 64800
  | .short => some 16200
  | .medium => some 32400
  | .reserved => none

/-- The rate labels in the order of their codes (30_encoding.md R90). -/
def rateLabels : List RateLabel :=
  [.r1_4, .r1_3, .r2_5, .r1_2, .r3_5, .r2_3, .r3_4, .r4_5, .r5_6, .r7_8, .r8_9, .r9_10, .r13_45, .r9_20,
   .r90_180, .r96_180, .r11_20] ++
  [.r100_180, .r104_180, .r26_45, .r18_30, .r28_45, .r23_36, .r116_180, .r20_30, .r124_180, .r25_36,
   .r128_180, .r13_18, .r132_180, .r22_30, .r135_180, .r140_180, .r7_9] ++
  [.r154_180, .r11_45, .r4_15, .r14_45, .r7_15, .r8_15, .r32_45, .r2_9_vlsnr, .r1_5_medium, .r11_45_medium,
   .r1_3_medium, .r1_5_vlsnr_sf2, .r11_45_vlsnr_sf2, .r1_5_vlsnr, .r4_15_vlsnr, .r1_3_vlsnr, .rOther]

/-- RATE codes (30_encoding.md R90): a label's code is its place in the rule's table. -/
def RateLabel.code (l : RateLabel) : BitVec 6 := BitVec.ofNat 6 (rateLabels.idxOf l)

/-- The two placeholder labels (30_encoding.md R90). -/
def RateLabel.placeholder (l : RateLabel) : Bool := l = .r7_8 || l = .rOther

/-- FAMILY codes (42_generator_table.md R120). -/
def Family.code : Family → BitVec 3
  | .n12 => 0
  | .n10 => 1
  | .n8 => 2
  | .s12 => 3
  | .m12 => 4

/-- An error's code is its bit number in ERR (60_exceptions.md R210, R219). -/
def ErrBit.code : ErrBit → Nat
  | .illcmd => 0
  | .ovr => 1
  | .nocfg => 2
  | .range => 3
  | .sym => 4
  | .table => 5
  | .bus => 6

/-- Register offsets (10_state.md R24). -/
def Reg.offset : Reg → BitVec 12
  | .id => 0x000
  | .cmd => 0x004
  | .status => 0x008
  | .err => 0x00C
  | .cfg => 0x010
  | .codeK => 0x014
  | .codeN => 0x018
  | .codeInfo => 0x01C
  | .inBase => 0x020
  | .inAvail => 0x024
  | .outBase => 0x028
  | .outSpace => 0x02C
  | .consumed => 0x030
  | .produced => 0x034
  | .frames => 0x038

/-- The registers in the order of their offsets (10_state.md R24). -/
def allRegs : List Reg :=
  [.id, .cmd, .status, .err, .cfg, .codeK, .codeN, .codeInfo, .inBase, .inAvail, .outBase, .outSpace,
   .consumed, .produced, .frames]

/-- The register at a byte offset; none for the reserved offsets (10_state.md R24, R41). -/
def Reg.ofOffset (off : BitVec 12) : Option Reg := allRegs.find? fun r => r.offset = off

/-- How many bytes an access of this width covers (20_memory.md R63). -/
def Width.bytes : Width → Nat
  | .byte => 1
  | .word => 4

end Sys2Proof
end

