-- ==== Sys2Proof/Machine/Tables.lean ====
section
/-! DEFINITION. The code families (42_generator_table.md R120), the ROM's two tables with their reference contents
(R124, R125, R127), the generator store's shape (10_state.md R43), and the parameters (00_scope.md R10). -/

namespace Sys2Proof

/-- R_f, the redundancy length (42_generator_table.md R120). -/
def Family.redundancy : Family → Nat
  | .n12 => 192
  | .n10 => 160
  | .n8 => 128
  | .s12 => 168
  | .m12 => 180

/-- W_f, the packed words (42_generator_table.md R120). -/
def Family.words : Family → Nat
  | .n12 => 6
  | .n10 => 5
  | .n8 => 4
  | .s12 => 6
  | .m12 => 6

/-- The families in the order BUILD takes them (42_generator_table.md R130). -/
def allFamilies : List Family := [.n12, .n10, .n8, .s12, .m12]

/-- FACTOR_TABLE (42_generator_table.md R122): the ordered factor list of each family. -/
structure FactorTable where
  n12 : List Poly
  n10 : List Poly
  n8 : List Poly
  s12 : List Poly
  m12 : List Poly
  deriving DecidableEq, Repr

/-- FACTORS[f]. -/
def FactorTable.get (t : FactorTable) : Family → List Poly
  | .n12 => t.n12
  | .n10 => t.n10
  | .n8 => t.n8
  | .s12 => t.s12
  | .m12 => t.m12

/-- One entry (CLASS, RATE) -> (n, FAMILY) of CONFIG_TABLE (42_generator_table.md R126). -/
structure ConfigEntry where
  cls : BitVec 2
  rate : BitVec 6
  n : BitVec 16
  fam : Family
  deriving DecidableEq, Repr

/-- The ROM (10_state.md R44): FACTOR_ROM and CONFIG_ROM. -/
structure Rom where
  factors : FactorTable
  config : List ConfigEntry
  deriving DecidableEq, Repr

/-- GEN, the generator store (10_state.md R43): the packed generator of each family. -/
structure GenStore where
  n12 : List Word
  n10 : List Word
  n8 : List Word
  s12 : List Word
  m12 : List Word
  deriving DecidableEq, Repr

/-- GEN[f]. -/
def GenStore.get (g : GenStore) : Family → List Word
  | .n12 => g.n12
  | .n10 => g.n10
  | .n8 => g.n8
  | .s12 => g.s12
  | .m12 => g.m12

/-- GEN[f] <- ws. -/
def GenStore.set (g : GenStore) (f : Family) (ws : List Word) : GenStore :=
  match f with
  | .n12 => { g with n12 := ws }
  | .n10 => { g with n10 := ws }
  | .n8 => { g with n8 := ws }
  | .s12 => { g with s12 := ws }
  | .m12 => { g with m12 := ws }

/-- How many words GEN has in all: the sum of the W_f. -/
def genWords : Nat := 27

/-- GEN with unspecified content (10_state.md R43, R51): every word a free value, drawn from counter d on (log
entry 6). -/
def freshGen (d : Nat) : GenStore :=
  let draw := fun (first count : Nat) => (List.range count).map fun w => Config.freeWord (d + first + w)
  { n12 := draw 0 6, n10 := draw 6 5, n8 := draw 11 4, s12 := draw 15 6, m12 := draw 21 6 }

/-- The parameters of 00_scope.md R10 that are no table: buffer sizes, multiplier capacity, platform placement. -/
structure Params where
  ibufBytes : Nat
  obufBytes : Nat
  maxLen : Nat
  regBase : Nat
  ibufBase : Nat
  obufBase : Nat
  deriving DecidableEq, Repr

/-- The parameters of the machine that State.reset stands for: each an open value of Config (log entry 9). -/
def platformParams : Params :=
  { ibufBytes := Config.ibufBytes, obufBytes := Config.obufBytes, maxLen := Config.maxLen,
    regBase := Config.regBase, ibufBase := Config.ibufBase, obufBase := Config.obufBase }

/-- The polynomial whose nonzero terms have the given exponents (42_generator_table.md R124 lists factors so). -/
def polyOfExponents (es : List Nat) : Poly :=
  (List.range (es.foldl max 0 + 1)).map fun i => es.contains i

/-- 42_generator_table.md R124, the normal factors g1 to g12. -/
def normalFactors : List Poly :=
  [polyOfExponents [0, 2, 3, 5, 16],
   polyOfExponents [0, 1, 4, 5, 6, 8, 16],
   polyOfExponents [0, 2, 3, 4, 5, 7, 8, 9, 10, 11, 16],
   polyOfExponents [0, 2, 4, 6, 9, 11, 12, 14, 16],
   polyOfExponents [0, 1, 2, 3, 5, 8, 9, 10, 11, 12, 16],
   polyOfExponents [0, 2, 4, 5, 7, 8, 9, 10, 12, 13, 14, 15, 16]] ++
  [polyOfExponents [0, 2, 5, 6, 8, 9, 10, 11, 13, 15, 16],
   polyOfExponents [0, 1, 2, 5, 6, 8, 9, 12, 13, 14, 16],
   polyOfExponents [0, 5, 7, 9, 10, 11, 16],
   polyOfExponents [0, 1, 2, 5, 7, 8, 10, 12, 13, 14, 16],
   polyOfExponents [0, 2, 3, 5, 9, 11, 12, 13, 16],
   polyOfExponents [0, 1, 5, 6, 7, 9, 11, 12, 16]]

/-- 42_generator_table.md R124, the short factors g1 to g12. -/
def shortFactors : List Poly :=
  [polyOfExponents [0, 1, 3, 5, 14],
   polyOfExponents [0, 6, 8, 11, 14],
   polyOfExponents [0, 1, 2, 6, 9, 10, 14],
   polyOfExponents [0, 4, 7, 8, 10, 12, 14],
   polyOfExponents [0, 2, 4, 6, 8, 9, 11, 13, 14],
   polyOfExponents [0, 3, 7, 8, 9, 13, 14]] ++
  [polyOfExponents [0, 2, 5, 6, 7, 10, 11, 13, 14],
   polyOfExponents [0, 5, 8, 9, 10, 11, 14],
   polyOfExponents [0, 1, 2, 3, 9, 10, 14],
   polyOfExponents [0, 3, 6, 9, 11, 12, 14],
   polyOfExponents [0, 4, 11, 12, 14],
   polyOfExponents [0, 1, 2, 3, 5, 6, 7, 8, 10, 13, 14]]

/-- The reference FACTOR_TABLE (42_generator_table.md R124), with FACTORS[M12] given (R125). -/
def factorsWithMedium (m12 : List Poly) : FactorTable :=
  { n12 := normalFactors, n10 := normalFactors.take 10, n8 := normalFactors.take 8, s12 := shortFactors,
    m12 := m12 }

/-- The FACTOR_TABLE of State.reset: R124's reference lists, and the open FACTORS_M12 (log entries 7, 8). -/
def referenceFactors : FactorTable := factorsWithMedium Config.factorsM12

/-- An entry of CONFIG_TABLE by its names. -/
def configEntry (cls : FrameClass) (label : RateLabel) (n : Nat) (fam : Family) : ConfigEntry :=
  { cls := cls.code, rate := label.code, n := BitVec.ofNat 16 n, fam := fam }

/-- 42_generator_table.md R127, the NORMAL rows: label, n, family. -/
def referenceConfigNormal : List ConfigEntry :=
  [configEntry .normal .r1_4 16200 .n12,
    configEntry .normal .r1_3 21600 .n12, configEntry .normal .r2_5 25920 .n12,
    configEntry .normal .r1_2 32400 .n12, configEntry .normal .r3_5 38880 .n12,
    configEntry .normal .r2_3 43200 .n10, configEntry .normal .r3_4 48600 .n12,
    configEntry .normal .r4_5 51840 .n12, configEntry .normal .r5_6 54000 .n10,
    configEntry .normal .r8_9 57600 .n8, configEntry .normal .r9_10 58320 .n8,
    configEntry .normal .r13_45 18720 .n12] ++
  [configEntry .normal .r9_20 29160 .n12,
    configEntry .normal .r90_180 32400 .n12, configEntry .normal .r96_180 34560 .n12,
    configEntry .normal .r11_20 35640 .n12, configEntry .normal .r100_180 36000 .n12,
    configEntry .normal .r104_180 37440 .n12, configEntry .normal .r26_45 37440 .n12,
    configEntry .normal .r18_30 38880 .n12, configEntry .normal .r28_45 40320 .n12,
    configEntry .normal .r23_36 41400 .n12, configEntry .normal .r116_180 41760 .n12,
    configEntry .normal .r20_30 43200 .n12] ++
  [configEntry .normal .r124_180 44640 .n12,
    configEntry .normal .r25_36 45000 .n12, configEntry .normal .r128_180 46080 .n12,
    configEntry .normal .r13_18 46800 .n12, configEntry .normal .r132_180 47520 .n12,
    configEntry .normal .r22_30 47520 .n12, configEntry .normal .r135_180 48600 .n12,
    configEntry .normal .r140_180 50400 .n12, configEntry .normal .r7_9 50400 .n12,
    configEntry .normal .r154_180 55440 .n12, configEntry .normal .r2_9_vlsnr 14400 .n12]

/-- 42_generator_table.md R127, the SHORT rows: label, n, family. -/
def referenceConfigShort : List ConfigEntry :=
  [configEntry .short .r1_4 3240 .s12,
    configEntry .short .r1_3 5400 .s12, configEntry .short .r2_5 6480 .s12,
    configEntry .short .r1_2 7200 .s12, configEntry .short .r3_5 9720 .s12,
    configEntry .short .r2_3 10800 .s12, configEntry .short .r3_4 11880 .s12,
    configEntry .short .r4_5 12600 .s12, configEntry .short .r5_6 13320 .s12,
    configEntry .short .r8_9 14400 .s12, configEntry .short .r26_45 9360 .s12,
    configEntry .short .r11_45 3960 .s12] ++
  [configEntry .short .r4_15 4320 .s12,
    configEntry .short .r14_45 5040 .s12, configEntry .short .r7_15 7560 .s12,
    configEntry .short .r8_15 8640 .s12, configEntry .short .r32_45 11520 .s12,
    configEntry .short .r1_5_vlsnr_sf2 2680 .s12, configEntry .short .r11_45_vlsnr_sf2 3960 .s12,
    configEntry .short .r1_5_vlsnr 3240 .s12, configEntry .short .r4_15_vlsnr 4320 .s12,
    configEntry .short .r1_3_vlsnr 5400 .s12]

/-- 42_generator_table.md R127, the MEDIUM rows: label, n, family. -/
def referenceConfigMedium : List ConfigEntry :=
  [configEntry .medium .r1_5_medium 5840 .m12,
    configEntry .medium .r11_45_medium 7920 .m12, configEntry .medium .r1_3_medium 10800 .m12]

/-- The reference CONFIG_TABLE (42_generator_table.md R127): 60 entries (log entry 7). -/
def referenceConfig : List ConfigEntry := referenceConfigNormal ++ referenceConfigShort ++ referenceConfigMedium

/-- The ROM of State.reset. -/
def referenceRom : Rom := { factors := referenceFactors, config := referenceConfig }

/-- The entry of a (class, rate) pair, none if the table has none (42_generator_table.md R126, R128). -/
def lookupConfig (table : List ConfigEntry) (cls : BitVec 2) (rate : BitVec 6) : Option ConfigEntry :=
  table.find? fun e => e.cls = cls && e.rate = rate

end Sys2Proof
end

