-- ==== Sys2Proof/Machine/State.lean ====
section
/-! DEFINITION. The state of BCH-ENC (10_state.md), the reasons a step can stop, and the state right after reset
(10_state.md R51). INVENTORY.md lists every field with its rule. -/

namespace Sys2Proof.Machine

/-- MODE (10_state.md R21). -/
inductive Mode where
  | init | idle | active | fault
  deriving DecidableEq, Repr

/-- CODE, the resolved configuration (10_state.md R47). -/
structure Code where
  cls : BitVec 2
  rate : BitVec 6
  k : BitVec 16
  n : BitVec 16
  fam : Family
  deriving DecidableEq, Repr

/-- The operands of a WORK: the snapshot IN_BASE, IN_AVAIL, OUT_BASE, OUT_SPACE, EOF (10_state.md R45;
30_encoding.md R86, R88). -/
structure WorkOps where
  inBase : Word
  inAvail : Word
  outBase : Word
  outSpace : Word
  eof : Bool
  deriving DecidableEq, Repr

/-- A pending command with its operands (10_state.md R45). -/
inductive Pending where
  | nop
  | cfg (cls : BitVec 2) (rate : BitVec 6)
  | work (ops : WorkOps)
  deriving DecidableEq, Repr

/-- Why the machine stops. No command of the opcode table ever stops it. -/
inductive Fault where
  /-- Raised by step when the host names a platform address that lies in none, or in more than one, of the windows
  at REG_BASE, IBUF_BASE_HOST, OBUF_BASE_HOST: no address of BCH-ENC (20_memory.md R61, R67). SAFE: the model
  stops where the spec describes nothing (log entry 12). -/
  | outsideWindows (t : Target)
  deriving DecidableEq, Repr

/-- What the model has no step for. No arm of exec raises it: all three commands are modelled. -/
inductive Refusal where
  /-- The instruction is not modelled yet; raised by nothing in this model. SAFE. -/
  | notModelled (mnemonic : String)
  /-- Raised by step when the host makes an access that 20_memory.md R62 or R63 does not admit, as those rules and
  60_exceptions.md R217 tell a model to do. SAFE: a program that makes one gets no claim (log entry 11). -/
  | unadmittedAccess (p : Place) (w : Width)
  deriving DecidableEq, Repr

/-- The state. Field names follow the register names of 10_state.md R24; views of other fields (STATUS, CODE_K,
CODE_N, CODE_INFO, ID, CMD) have no field. -/
structure State where
  /-- STATUS.MODE (10_state.md R21, R28). -/
  mode : Mode
  /-- STATUS.UNSUP (10_state.md R28). -/
  unsup : Bool
  /-- STATUS.DRAINED (10_state.md R28). -/
  drained : Bool
  /-- STATUS.STALL (10_state.md R28). -/
  stall : Bool
  /-- ERR[6:0]; bits 31:7 read 0 (10_state.md R29). -/
  err : BitVec 7
  /-- CFG[9:8], the class of the last completed CFG (10_state.md R30). -/
  cfgClass : BitVec 2
  /-- CFG[21:16], the rate of the last completed CFG (10_state.md R30). -/
  cfgRate : BitVec 6
  /-- IN_BASE (10_state.md R34). -/
  inBase : Word
  /-- IN_AVAIL (10_state.md R35). -/
  inAvail : Word
  /-- OUT_BASE (10_state.md R36). -/
  outBase : Word
  /-- OUT_SPACE (10_state.md R37). -/
  outSpace : Word
  /-- CONSUMED (10_state.md R38). -/
  consumed : Word
  /-- PRODUCED (10_state.md R39). -/
  produced : Word
  /-- FRAMES (10_state.md R40). -/
  frames : Word
  /-- PEND (10_state.md R45); STATUS.BUSY is 1 exactly when it is not none. -/
  pend : Option Pending
  /-- CODE (10_state.md R47). -/
  code : Option Code
  /-- SR (10_state.md R42): cell i is bit i. A configuration uses cells 0 to r-1; the others are 0. No command
  reads it before it zeroes it (43_lfsr_encoder.md R150). -/
  sr : BitVec 192
  /-- GEN (10_state.md R43). -/
  gen : GenStore
  /-- ROM (10_state.md R44). No step changes it. -/
  rom : Rom
  /-- IBUF (20_memory.md R60): the bytes a write has stored, addresses strictly rising. -/
  ibuf : List Host.Cell
  /-- OBUF (20_memory.md R60): the bytes a write has stored, addresses strictly rising. -/
  obuf : List Host.Cell
  /-- HAZ, the spec's model-only mark (10_state.md R48). -/
  haz : Bool
  /-- The parameters of 00_scope.md R10. No step changes them. -/
  params : Params
  /-- MODEL'S OWN: the accepted commands whose hazard window is open (70_reset_and_hazards.md R251; log entry 10). -/
  unpolled : List Pending
  /-- MODEL'S OWN: in a hardware run, the host has made an access that a model refuses; step never sets it (log
  entry 11). -/
  unadmitted : Bool
  /-- MODEL'S OWN: the host's pending operations, the next one first (log entry 1). -/
  hostOps : List HostOp
  /-- MODEL'S OWN: who makes the next steps; when it is empty the engine moves if it has work, else the host (log
  entry 2). -/
  sched : List Turn
  /-- MODEL'S OWN: the values the host's reads returned, newest first (log entry 1). -/
  results : List Word
  /-- MODEL'S OWN: the counter the free values are taken with (log entry 5). -/
  draws : Nat
  deriving DecidableEq, Repr

/-- The machine right after reset (10_state.md R24, R51; 70_reset_and_hazards.md R240): MODE = INIT, BUILD not yet
run. GEN and the buffers are unspecified: free words, and no byte listed. The model's own fields are empty: no
program is loaded and no turn is fixed. -/
def State.reset : State where
  mode := .init
  unsup := false
  drained := false
  stall := false
  err := 0
  cfgClass := 0
  cfgRate := 0
  inBase := 0
  inAvail := 0
  outBase := 0
  outSpace := 0
  consumed := 0
  produced := 0
  frames := 0
  pend := none
  code := none
  sr := 0
  gen := freshGen 0
  rom := referenceRom
  ibuf := []
  obuf := []
  haz := false
  params := platformParams
  unpolled := []
  unadmitted := false
  hostOps := []
  sched := []
  results := []
  draws := genWords

end Sys2Proof.Machine
end

