-- ==== Sys2Proof/WellFormed.lean ====
section
/-! DEFINITION. The checks the spec puts on syntax and on the tables a model is given: commands, factor lists
(42_generator_table.md R122), configuration entries (R126), parameters (00_scope.md R10), and the host accesses
that 20_memory.md R62 and R63 admit. -/

namespace Sys2Proof

/-- Every command with fields of its own widths is well formed (30_encoding.md R91: every CFG word is legal). -/
def Instr.wf : Instr → Bool
  | .nop => true
  | .cfg _ _ => true
  | .work _ => true

/-- 42_generator_table.md R122 (b): a factor is nonempty with last element 1. -/
def factorWf (p : Poly) : Bool := p.getLast? = some true

/-- The degree of a factor with no trailing zeros (00_scope.md R14). -/
def factorDegree (p : Poly) : Nat := p.length - 1

/-- 42_generator_table.md R122 (a), (b), (c) for one family; (d) is a property of the standard's code. -/
def factorListWf (f : Family) (factors : List Poly) : Bool :=
  8 ≤ factors.length && factors.length ≤ 12 && factors.all factorWf &&
    (factors.map factorDegree).sum = f.redundancy

/-- 42_generator_table.md R126 (a), (b), (c): R_FAMILY < n, CLASS in 0..2, RATE assigned and no placeholder. -/
def ConfigEntry.wf (e : ConfigEntry) : Bool :=
  e.fam.redundancy < e.n.toNat && e.cls.toNat ≤ 2 && e.rate.toNat ≤ 50 && e.rate ≠ RateLabel.r7_8.code &&
    e.rate ≠ RateLabel.rOther.code

/-- CONFIG_TABLE is a map (42_generator_table.md R126): every entry well formed, no pair twice. -/
def configTableWf (table : List ConfigEntry) : Bool :=
  table.all ConfigEntry.wf && (table.map fun e => (e.cls, e.rate)).Nodup

/-- The bounds of 00_scope.md R10 for a configuration table: a whole frame of every entry fits the buffers, the
multiplier holds 193 coefficients, and addresses are 32 bits wide (20_memory.md R60). -/
def Params.wf (p : Params) (table : List ConfigEntry) : Bool :=
  table.all (fun e => e.n.toNat - e.fam.redundancy ≤ p.ibufBytes && e.n.toNat ≤ p.obufBytes) &&
    193 ≤ p.maxLen && p.ibufBytes ≤ 2 ^ 32 && p.obufBytes ≤ 2 ^ 32

/-- 20_memory.md R62: a REG access is admitted only 32 bits wide at a multiple of 4. -/
def regAdmitted (off : BitVec 12) (w : Width) : Bool := w = .word && off.toNat % 4 = 0

/-- 20_memory.md R63: a buffer access is admitted as a byte at any address or a word at a multiple of 4, every
byte below the buffer's size. -/
def bufAdmitted (size : Nat) (a : BitVec 32) (w : Width) : Bool :=
  (w = .byte || a.toNat % 4 = 0) && a.toNat + w.bytes ≤ size

/-- 20_memory.md R62, R63 for a place of any space. -/
def placeAdmitted (p : Params) (w : Width) : Place → Bool
  | .reg off => regAdmitted off w
  | .ibuf a => bufAdmitted p.ibufBytes a w
  | .obuf a => bufAdmitted p.obufBytes a w

end Sys2Proof
end

