-- ==== Sys2Proof/Machine/Ops.lean ====
section
/-! DEFINITION. The named operations over memory and state: buffer reads and writes, raising and clearing errors
(the machine's only exception entry and return: 60_exceptions.md R210, R222, R223), the pending-command latch,
turns, results and the model's marks, the loop of the pseudocode, and the reset input. -/

namespace Sys2Proof.Machine

/-- `for i in 0..m-1` (00_scope.md R13): f 0 first, f (m-1) last; nothing when m = 0. -/
def forLoop {σ : Type} : Nat → (Nat → σ → σ) → σ → σ
  | 0, _, s => s
  | m + 1, f, s => f m (forLoop m f s)

/-! ## Memory (20_memory.md R60, R69) -/

/-- The byte a write has stored at an address, none if no write has (20_memory.md R69). -/
def memRead (mem : List Host.Cell) (a : Nat) : Option Byte :=
  match mem with
  | [] => none
  | (k, b) :: rest => if k = a then some b else memRead rest a

/-- MemWrite of consecutive bytes from `base` (00_scope.md R13): the cells below the run, the run, the cells above
it. -/
def writeRun (base : Nat) (bytes : List Byte) (mem : List Host.Cell) : List Host.Cell :=
  mem.filter (fun c => c.1 < base) ++
    (bytes.mapIdx fun i b => (base + i, b)) ++
    mem.filter (fun c => base + bytes.length ≤ c.1)

/-- The canonical form: addresses strictly rising. An unlisted address reads as no value, so no entry can equal
what it would read as (log entry 5). -/
abbrev memWf (mem : List Host.Cell) : Prop := (mem.map Prod.fst).Pairwise (· < ·)

/-- Every listed address lies below the buffer's size (20_memory.md R63, R65). -/
abbrev memBelow (size : Nat) (mem : List Host.Cell) : Prop := ∀ c ∈ mem, c.1 < size

/-- MemRead of n consecutive bytes from address a (00_scope.md R13). A byte no write has stored yields a draw
(20_memory.md R69): the free value of the counter d, one count per byte (log entry 5). -/
def readBytes (mem : List Host.Cell) (a n d : Nat) : List Byte :=
  (List.range n).map fun i => (memRead mem (a + i)).getD (Config.freeByte (d + i))

/-- n bytes whose value the spec leaves open: free values of the counter d (log entry 5). -/
def freeBytes (n d : Nat) : List Byte := (List.range n).map fun i => Config.freeByte (d + i)

/-- The little-endian word of at most four bytes (20_memory.md R63). -/
def leWord (bytes : List Byte) : Word := bytes.foldr (fun b acc => (acc <<< 8) ||| b.setWidth 32) 0

/-- The low n bytes of a value, little-endian (20_memory.md R63). -/
def leBytes (n : Nat) (v : Word) : List Byte := (List.range n).map fun i => v.extractLsb' (8 * i) 8

/-! ## Errors (60_exceptions.md) -/

/-- The ERR mask of one error (60_exceptions.md R210: an error's code is its bit number). -/
def errMask (e : ErrBit) : BitVec 7 := 1#7 <<< e.code

/-- Whether an error's sticky bit is set. -/
def State.hasErr (s : State) (e : ErrBit) : Bool := s.err.getLsbD e.code

/-- `raise`: set the error's sticky bit; nothing else happens (00_scope.md R13; 60_exceptions.md R210, R222). -/
def State.raise (s : State) (e : ErrBit) : State := { s with err := s.err ||| errMask e }

/-- `raise` under a condition. -/
def State.raiseIf (s : State) (b : Bool) (e : ErrBit) : State :=
  { s with err := if b then s.err ||| errMask e else s.err }

/-- A host write to ERR: each 1 clears its bit, except TABLE, which only reset clears (10_state.md R25, R29;
60_exceptions.md R216, R223). -/
def State.writeErr (s : State) (v : Word) : State :=
  { s with err := s.err &&& ~~~(v.setWidth 7 &&& ~~~errMask .table) }

/-! ## The pending command (10_state.md R45) -/

/-- STATUS.BUSY: 1 exactly when PEND is not none (10_state.md R45). -/
def State.busy (s : State) : Bool := s.pend.isSome

/-- PEND <- none: the end of a command (30_encoding.md R87). -/
def State.clearPend (s : State) : State := { s with pend := none }

/-- PEND <- some p: the acceptance of a command, which opens its hazard window (30_encoding.md R86;
70_reset_and_hazards.md R251). -/
def State.latch (s : State) (p : Pending) : State := { s with pend := some p, unpolled := p :: s.unpolled }

/-- The command of a pending latch. -/
def Pending.instr : Pending → Instr
  | .nop => .nop
  | .cfg cls rate => .cfg cls rate
  | .work o => .work o.eof

/-! ## Host side and model marks -/

/-- The host's read returned a value (30_encoding.md R95). -/
def State.pushResult (s : State) (v : Word) : State := { s with results := v :: s.results }

/-- n counts of the free-value counter are used up (log entry 5). -/
def State.advanceDraws (s : State) (n : Nat) : State := { s with draws := s.draws + n }

/-- The host broke 70_reset_and_hazards.md R252: HAZ is set and stays set (10_state.md R48). -/
def State.setHaz (s : State) : State := { s with haz := true }

/-- In a hardware run, the host made an access that a model refuses (20_memory.md R62, R63): the sticky mark (log
entry 11). -/
def State.setUnadmitted (s : State) : State := { s with unadmitted := true }

/-- A read of STATUS returned BUSY = 0: every hazard window is closed (70_reset_and_hazards.md R251). -/
def State.closeWindows (s : State) : State := { s with unpolled := [] }

/-- The host's operation is done. -/
def State.popOp (s : State) : State := { s with hostOps := s.hostOps.tail }

/-- The step uses up the turn it took. -/
def State.popTurn (s : State) : State := { s with sched := s.sched.tail }

/-- Whether the engine has work: BUILD (MODE = INIT) or a pending command (10_state.md R20). -/
def State.engineHasWork (s : State) : Bool := s.busy || s.mode = .init

/-- Whose turn it is: the next of sched; when it is used up, the engine's if it has work (70_reset_and_hazards.md
R255: a completion step that stays enabled is taken), else the host's (log entry 2). -/
def State.turn (s : State) : Turn :=
  match s.sched with
  | t :: _ => t
  | [] => if s.engineHasWork then .engine else .host

/-- The reset input (70_reset_and_hazards.md R240): every piece of state at its reset value (10_state.md R51), GEN
and the buffers unspecified anew. The ROM and the parameters are not changed; the host's program, the turns and
the values already read are the host's, not the device's. -/
def State.applyReset (s : State) : State :=
  { State.reset with
    gen := freshGen s.draws
    rom := s.rom
    params := s.params
    hostOps := s.hostOps
    sched := s.sched
    results := s.results
    draws := s.draws + genWords }

end Sys2Proof.Machine
end

