-- ==== Sys2Proof/Machine/Poly.lean ====
section
/-! DEFINITION. The GF(2) polynomial multiplier, the generator packer and the packed-word operations
(41_polynomial_algebra.md; 43_lfsr_encoder.md R151, R152). -/

namespace Sys2Proof.Machine

/-- Coefficient-wise GF(2) sum of two vectors, the shorter one continued by zeros (41_polynomial_algebra.md
R100). -/
def polyAdd : Poly → Poly → Poly
  | [], b => b
  | a, [] => a
  | x :: a, y :: b => (x ^^ y) :: polyAdd a b

/-- The product before TRIM: convolution with XOR for addition and AND for multiplication
(41_polynomial_algebra.md R101). Row i of the rule's double loop adds a[i] AND b[j] into c[i+j]; here the row of
the first coefficient is added to the product of the rest, moved up by one degree. -/
def convolve : Poly → Poly → Poly
  | [], _ => []
  | x :: a, b => polyAdd (b.map fun y => x && y) (false :: convolve a b)

/-- TRIM: remove trailing zero coefficients (41_polynomial_algebra.md R101). -/
def trim : Poly → Poly
  | [] => []
  | x :: a =>
    match trim a with
    | [] => if x then [true] else []
    | t => x :: t

/-- MUL (41_polynomial_algebra.md R101). -/
def polyMul (a b : Poly) : Poly :=
  if a = [] ∨ b = [] then [] else trim (convolve a b)

/-- The coefficient of x^i, 0 beyond the vector's end (00_scope.md R14). -/
def polyCoeff (p : Poly) (i : Nat) : Bool := p.getD i false

/-- One packed word: coefficient 32w + b of v at bit 31 - b, coefficients beyond the end 0
(41_polynomial_algebra.md R104). -/
def packWord (v : Poly) (w : Nat) : Word :=
  (List.range 32).foldl
    (fun acc b => if polyCoeff v (32 * w + b) then acc ||| (1#32 <<< (31 - b)) else acc) 0

/-- PACK (41_polynomial_algebra.md R104). -/
def pack (v : Poly) : List Word := (List.range ((v.length + 31) / 32)).map (packWord v)

/-- The bit at packed position p of a packed vector: bit 31 - (p mod 32) of word p div 32 (00_scope.md R15). -/
def packedBit (ws : List Word) (p : Nat) : Bool := (ws.getD (p / 32) 0).getLsbD (31 - p % 32)

/-- Packed XOR, word by word (41_polynomial_algebra.md R107). -/
def packedXor (a b : List Word) : List Word := List.zipWith (· ^^^ ·) a b

/-- The word form of the chain shift, before masking: each word moves right by one and takes the bit leaving the
word before it, `carry` for the first (43_lfsr_encoder.md R152). -/
def packedShiftRight : Bool → List Word → List Word
  | _, [] => []
  | carry, w :: ws => ((w >>> 1) ||| (if carry then 0x80000000#32 else 0)) :: packedShiftRight (w.getLsbD 0) ws

/-- The vector with every packed position at or beyond r set to 0 (43_lfsr_encoder.md R152). -/
def packedMask (r : Nat) (ws : List Word) : List Word :=
  (List.range ws.length).map fun i =>
    packWord ((List.range (32 * ws.length)).map fun p => decide (p < r) && packedBit ws p) i

/-- The whole chain shift on the packed view of an r-cell register (43_lfsr_encoder.md R152). -/
def chainShift (r : Nat) (ws : List Word) : List Word := packedMask r (packedShiftRight false ws)

end Sys2Proof.Machine
end

