-- ==== Sys2Proof/Machine/Build.lean ====
section
/-! DEFINITION. BUILD, the engine's first work after reset: every family's packed generator from its factors
(42_generator_table.md R130, R131). -/

namespace Sys2Proof.Machine

/-- The running product of BUILD's inner loop; none when a product would need more than MAXLEN coefficients
(42_generator_table.md R130, R131 (c)). The rule's `length(G) + length(phi) - 1 > MAXLEN` is over integers. -/
def buildProduct (maxLen : Nat) : Poly → List Poly → Option Poly
  | g, [] => some g
  | g, phi :: rest =>
    if maxLen + 1 < g.length + phi.length then none else buildProduct maxLen (polyMul g phi) rest

/-- One family of BUILD: the words of GEN[f], or none for an internal table inconsistency (42_generator_table.md
R130, R131; 41_polynomial_algebra.md R106). The rule's `length(G) - 1 != R_f` is over integers. -/
def buildFamily (maxLen : Nat) (f : Family) (factors : List Poly) : Option (List Word) :=
  match buildProduct maxLen [true] factors with
  | none => none
  | some g =>
    if g.length ≠ f.redundancy + 1 then none
    else
      let words := pack (g.take f.redundancy)
      if words.length ≠ f.words then none else some words

/-- BUILD from the given families on: GEN[f] <- words for each, then MODE <- IDLE; at the first inconsistency
ERR.TABLE <- 1 and MODE <- FAULT, with the words of the families before it kept (42_generator_table.md R130;
60_exceptions.md R216). -/
def buildFrom : List Family → State → State
  | [], s => { s with mode := .idle }
  | f :: fs, s =>
    match buildFamily s.params.maxLen f (s.rom.factors.get f) with
    | some words => buildFrom fs { s with gen := s.gen.set f words }
    | none => { s.raise .table with mode := .fault }

/-- BUILD (42_generator_table.md R130). -/
def build (s : State) : State := buildFrom allFamilies s

end Sys2Proof.Machine
end

