-- ==== Sys2Proof/Machine/Operands.lean ====
section
/-! DEFINITION. The operands of commands: the snapshot of the operand registers, the window check, the checks of
acceptance that do not depend on the word's legality, RESOLVE, and the chunking arithmetic of WORK (30_encoding.md
R86, R88; 20_memory.md R76; 42_generator_table.md R134; 44_streaming.md R181, R193). -/

namespace Sys2Proof.Machine

/-- The snapshot of the operand registers with an EOF bit (30_encoding.md R86, R88). -/
def State.snapshot (s : State) (eof : Bool) : WorkOps :=
  { inBase := s.inBase, inAvail := s.inAvail, outBase := s.outBase, outSpace := s.outSpace, eof := eof }

/-- The latch of a command with the operands it takes at acceptance (30_encoding.md R86). -/
def State.pendingOf (s : State) : Instr → Pending
  | .nop => .nop
  | .cfg cls rate => .cfg cls rate
  | .work eof => .work (s.snapshot eof)

/-- The operands a WORK is performed with: those latched in PEND (10_state.md R45); where no WORK is latched, which
the engine never meets, the operand registers as they stand (log entry 14). -/
def State.workOps (s : State) (eof : Bool) : WorkOps :=
  match s.pend with
  | some (.work o) => { o with eof := eof }
  | _ => s.snapshot eof

/-- The window check, with sums that do not wrap (20_memory.md R76). -/
def inRange (p : Params) (o : WorkOps) : Bool :=
  o.inBase.toNat + o.inAvail.toNat ≤ p.ibufBytes && o.outBase.toNat + o.outSpace.toNat ≤ p.obufBytes

/-- The error that turns a legal command away in a state, none if it is admitted: the checks of 30_encoding.md R86
after Decode, in its order, for a WORK with operands o. MODE = INIT comes first (60_exceptions.md R212). -/
def admissionError (s : State) (i : Instr) (o : WorkOps) : Option ErrBit :=
  if s.mode = .init then some .ovr
  else if s.mode = .fault ∧ i ≠ .nop then some .nocfg
  else
    match i with
    | .nop => none
    | .cfg _ _ => none
    | .work _ =>
      if s.mode ≠ .active then some .nocfg
      else if inRange s.params o then none
      else some .range

/-- RESOLVE: a pure lookup in CONFIG_ROM, with k = n - R_f (42_generator_table.md R129, R134). -/
def resolve (rom : Rom) (cls : BitVec 2) (rate : BitVec 6) : Option Code :=
  match lookupConfig rom.config cls rate with
  | none => none
  | some e =>
    some { cls := cls, rate := rate, k := e.n - BitVec.ofNat 16 e.fam.redundancy, n := e.n, fam := e.fam }

/-- frames = min(IN_AVAIL div k, OUT_SPACE div n) (44_streaming.md R181). -/
def frameCount (c : Code) (o : WorkOps) : Nat :=
  min (o.inAvail.toNat / c.k.toNat) (o.outSpace.toNat / c.n.toNat)

/-- rem = IN_AVAIL - k * frames, which cannot underflow (44_streaming.md R184, R193). -/
def remainder (c : Code) (o : WorkOps) : Nat := o.inAvail.toNat - c.k.toNat * frameCount c o

/-- The address of a frame's first information symbol in IBUF (44_streaming.md R183). -/
def frameInAddr (c : Code) (o : WorkOps) (f : Nat) : Nat := o.inBase.toNat + f * c.k.toNat

/-- The address of a frame's first codeword symbol in OBUF (44_streaming.md R183). -/
def frameOutAddr (c : Code) (o : WorkOps) (f : Nat) : Nat := o.outBase.toNat + f * c.n.toNat

end Sys2Proof.Machine
end

