-- ==== Sys2Proof/Machine/Nop.lean ====
section
/-! DEFINITION. NOP (44_streaming.md R190), and how a command that its state does not admit ends. -/

namespace Sys2Proof.Machine

/-- A command that its state does not admit: its error's bit is set, the command is discarded (30_encoding.md R86;
60_exceptions.md R222). Acceptance makes the same checks first, so the engine meets none of them in a reachable
state (log entry 14). -/
def State.turnAway (s : State) (e : ErrBit) : State := (s.raise e).clearPend

/-- NOP: nothing; PEND <- none (44_streaming.md R190). Not admitted in INIT (60_exceptions.md R212). -/
def execNop (s : State) : Host.Outcome State Fault Refusal :=
  match admissionError s .nop (s.snapshot false) with
  | some e => .next (s.turnAway e)
  | none => .next s.clearPend

end Sys2Proof.Machine
end

