-- ==== Sys2Proof/Machine/Cfg.lean ====
section
/-! DEFINITION. CFG: resolve a configuration (42_generator_table.md R137). -/

namespace Sys2Proof.Machine

/-- CFG's effect (42_generator_table.md R137): reg CFG, the cleared reports and flags, CODE, MODE and UNSUP. -/
def State.configure (s : State) (cls : BitVec 2) (rate : BitVec 6) : State :=
  { s with
    cfgClass := cls
    cfgRate := rate
    consumed := 0
    produced := 0
    frames := 0
    drained := false
    stall := false
    code := resolve s.rom cls rate
    mode := if (resolve s.rom cls rate).isSome then .active else .idle
    unsup := (resolve s.rom cls rate).isNone }

/-- CFG: admitted in IDLE and ACTIVE; NOCFG in FAULT, OVR in INIT (42_generator_table.md R137, R138;
60_exceptions.md R212, R213). -/
def execCfg (cls : BitVec 2) (rate : BitVec 6) (s : State) : Host.Outcome State Fault Refusal :=
  match admissionError s (.cfg cls rate) (s.snapshot false) with
  | some e => .next (s.turnAway e)
  | none => .next (s.configure cls rate).clearPend

end Sys2Proof.Machine
end

