-- ==== Sys2Proof/Machine/Flags.lean ====
section
/-! DEFINITION. The flags (10_state.md R50): the STATUS word and its fields, DRAINED and STALL after a WORK, and the
words of CFG, CODE_K, CODE_N, CODE_INFO. -/

namespace Sys2Proof.Machine

/-- MODE codes (10_state.md R21). -/
def Mode.code : Mode → BitVec 3
  | .init => 0
  | .idle => 1
  | .active => 2
  | .fault => 3

/-- One flag at a bit of a register word. -/
def flagAt (b : Bool) (i : Nat) : Word := if b then 1#32 <<< i else 0

/-- ERRANY: the OR of ERR[6:0] (10_state.md R28). -/
def State.errAny (s : State) : Bool := s.err ≠ 0

/-- STATUS (10_state.md R28). -/
def statusWord (s : State) : Word :=
  s.mode.code.setWidth 32 ||| flagAt s.busy 3 ||| flagAt s.unsup 4 ||| flagAt s.drained 5 ||| flagAt s.stall 6 |||
    flagAt s.errAny 7

/-- CFG: class at bits 9:8, rate at bits 21:16 (10_state.md R30). -/
def cfgWord (s : State) : Word := (s.cfgRate.setWidth 32 <<< 16) ||| (s.cfgClass.setWidth 32 <<< 8)

/-- The configuration the CODE registers show: CODE when MODE = ACTIVE (10_state.md R31 to R33). -/
def State.shownCode (s : State) : Option Code := if s.mode = .active then s.code else none

/-- CODE_K (10_state.md R31). -/
def codeKWord (s : State) : Word :=
  match s.shownCode with
  | some c => c.k.setWidth 32
  | none => 0

/-- CODE_N (10_state.md R32). -/
def codeNWord (s : State) : Word :=
  match s.shownCode with
  | some c => c.n.setWidth 32
  | none => 0

/-- CODE_INFO: R at 7:0, FAMILY at 10:8, W at 14:12, VALID at 15 (10_state.md R33). -/
def codeInfoWord (s : State) : Word :=
  match s.shownCode with
  | some c =>
    (BitVec.ofNat 8 c.fam.redundancy).setWidth 32 ||| (c.fam.code.setWidth 32 <<< 8) |||
      (BitVec.ofNat 32 c.fam.words <<< 12) ||| flagAt true 15
  | none => 0

/-- DRAINED after a WORK: EOF = 1 and no input symbol left (44_streaming.md R186). -/
def drainedFlag (eof : Bool) (rem : Nat) : Bool := eof && rem = 0

/-- STALL after a WORK: EOF = 1 and 1 to k-1 symbols left (44_streaming.md R187). -/
def stallFlag (eof : Bool) (rem k : Nat) : Bool := eof && 0 < rem && rem < k

end Sys2Proof.Machine
end

