-- ==== Sys2Proof/Machine/Lfsr.lean ====
section
/-! DEFINITION. The LFSR systematic encoder (43_lfsr_encoder.md). A register of r cells is a BitVec r: cell i is bit
i (10_state.md R42), so that the value held after the information bits is the remainder polynomial with the
coefficient of x^i at bit i (R157). -/

namespace Sys2Proof.Machine

/-- The generator's stored coefficients g_0 .. g_(r-1), read from the packed words: bit j is packed position j
(43_lfsr_encoder.md, notation; 42_generator_table.md R132). -/
def genCells (r : Nat) (ws : List Word) : BitVec r :=
  (BitVec.ofBoolListLE ((List.range r).map (packedBit ws))).setWidth r

/-- The feedback tap and parity output cell, SR[r-1] (43_lfsr_encoder.md R151; 90_conflicts.md C1). -/
def tapCell {r : Nat} (sr : BitVec r) : Bool := sr.getLsbD (r - 1)

/-- SHIFT: cell i takes cell i-1, cell 0 takes 0, the old cell r-1 leaves (43_lfsr_encoder.md R152). -/
def shiftCells {r : Nat} (sr : BitVec r) : BitVec r := sr <<< 1

/-- FEED: consume one information bit (43_lfsr_encoder.md R153). -/
def feed {r : Nat} (g : BitVec r) (sr : BitVec r) (u : Bool) : BitVec r :=
  let fb := u ^^ tapCell sr
  let shifted := shiftCells sr
  if fb then shifted ^^^ g else shifted

/-- The register after the information bits, in order (43_lfsr_encoder.md R156). -/
def feedAll {r : Nat} (g : BitVec r) (sr : BitVec r) (us : List Bool) : BitVec r := us.foldl (feed g) sr

/-- PARITY: the emitted bit and the register after it (43_lfsr_encoder.md R155). -/
def parityStep {r : Nat} (sr : BitVec r) : Bool × BitVec r := (tapCell sr, shiftCells sr)

/-- m PARITY steps: the emitted bits in order, and the register after them (43_lfsr_encoder.md R155, R156). -/
def parityRun {r : Nat} : Nat → BitVec r → List Bool × BitVec r
  | 0, sr => ([], sr)
  | m + 1, sr =>
    let (p, sr1) := parityStep sr
    let (ps, sr2) := parityRun m sr1
    (p :: ps, sr2)

/-- The parity region of a frame (43_lfsr_encoder.md R156): r PARITY steps after the information bits were fed
into a zero register (R150). -/
def parityOf {r : Nat} (g : BitVec r) (us : List Bool) : List Bool := (parityRun r (feedAll g 0 us)).1

/-- The register at the end of a frame (43_lfsr_encoder.md R156). -/
def srAfterFrame {r : Nat} (g : BitVec r) (us : List Bool) : BitVec r := (parityRun r (feedAll g 0 us)).2

/-- ENCODE_FRAME: the information bits, then the parity bits (43_lfsr_encoder.md R156). -/
def encodeFrame {r : Nat} (g : BitVec r) (us : List Bool) : List Bool := us ++ parityOf g us

/-- PV(SR), the packed view: position p of a W-word vector holds cell p for p < r, and 0 beyond
(43_lfsr_encoder.md R151). -/
def packedView {r : Nat} (sr : BitVec r) : List Word :=
  pack ((List.range r).map fun i => sr.getLsbD i)

end Sys2Proof.Machine
end

