-- ==== Sys2Proof/Machine/Work.lean ====
section
/-! DEFINITION. WORK: process the whole frames that fit (44_streaming.md R180 to R194). -/

namespace Sys2Proof.Machine

/-- The bit a symbol feeds the LFSR with: b AND 0x01 (44_streaming.md R188). -/
def symbolBit (b : Byte) : Bool := b.getLsbD 0

/-- A parity bit as a byte, 0x00 or 0x01 (44_streaming.md R189). -/
def parityByte (p : Bool) : Byte := if p then 0x01 else 0x00

/-- A byte that is no symbol: other than 0x00 and 0x01 (44_streaming.md R188). -/
def badSymbol (b : Byte) : Bool := 0x01#8 < b

/-- The generator coefficients a frame is encoded with: GEN[fam], r = n - k cells (44_streaming.md R184). -/
def frameGen (s : State) (c : Code) : BitVec (c.n.toNat - c.k.toNat) :=
  genCells (c.n.toNat - c.k.toNat) (s.gen.get c.fam)

/-- The n bytes of a frame's codeword: the symbols unchanged, then the parity bytes (44_streaming.md R184, R188,
R189; 43_lfsr_encoder.md R156). -/
def codewordBytes {r : Nat} (g : BitVec r) (syms : List Byte) : List Byte :=
  syms ++ (parityOf g (syms.map symbolBit)).map parityByte

/-- The k information symbols a frame reads from IBUF, in order (44_streaming.md R183). An unwritten byte is a draw
(20_memory.md R69). -/
def frameSymbols (s : State) (c : Code) (o : WorkOps) (f : Nat) : List Byte :=
  readBytes s.ibuf (frameInAddr c o f) c.k.toNat s.draws

/-- One frame of WORK's loop (44_streaming.md R184). IBUF is not written by WORK and the write order is not
observable, so the frame's reads are taken together and its writes are one run. -/
def workFrame (c : Code) (o : WorkOps) (f : Nat) (s : State) : State :=
  let syms := frameSymbols s c o f
  let g := frameGen s c
  { s with
    obuf := writeRun (frameOutAddr c o f) (codewordBytes g syms) s.obuf
    sr := (srAfterFrame g (syms.map symbolBit)).setWidth 192
    err := if syms.any badSymbol then s.err ||| errMask .sym else s.err
    draws := s.draws + c.k.toNat }

/-- All the frames of a WORK, in order (44_streaming.md R184). -/
def workFrames (c : Code) (o : WorkOps) (s : State) : State := forLoop (frameCount c o) (workFrame c o) s

/-- WORK's effect (44_streaming.md R184): the frames, then the reports and flags (R185 to R187). -/
def State.work (s : State) (c : Code) (o : WorkOps) : State :=
  { workFrames c o s with
    frames := BitVec.ofNat 32 (frameCount c o)
    consumed := BitVec.ofNat 32 (c.k.toNat * frameCount c o)
    produced := BitVec.ofNat 32 (c.n.toNat * frameCount c o)
    drained := drainedFlag o.eof (remainder c o)
    stall := stallFlag o.eof (remainder c o) c.k.toNat }

/-- WORK: admitted in ACTIVE with both windows in range (44_streaming.md R184); otherwise OVR in INIT, NOCFG
without a configuration, RANGE (60_exceptions.md R212 to R214). -/
def execWork (eof : Bool) (s : State) : Host.Outcome State Fault Refusal :=
  match admissionError s (.work eof) (s.workOps eof), s.code with
  | some e, _ => .next (s.turnAway e)
  | none, none => .next (s.turnAway .nocfg)
  | none, some c => .next (s.work c (s.workOps eof)).clearPend

/-- One symbol of the information phase as the pseudocode of 44_streaming.md R184 writes it: read, check, copy,
FEED. Kept beside workFrame to be proved equal to it. -/
def infoSymbol {r : Nat} (g : BitVec r) (inAddr outAddr : Nat) (j : Nat) (t : State × BitVec r) :
    State × BitVec r :=
  let b := (memRead t.1.ibuf (inAddr + j)).getD (Config.freeByte t.1.draws)
  let s1 := t.1.raiseIf (badSymbol b) .sym
  ({ s1 with obuf := writeRun (outAddr + j) [b] s1.obuf, draws := s1.draws + 1 }, feed g t.2 (symbolBit b))

/-- One symbol of the parity phase as the pseudocode of 44_streaming.md R184 writes it. -/
def paritySymbol {r : Nat} (outAddr k : Nat) (j : Nat) (t : State × BitVec r) : State × BitVec r :=
  let (p, sr) := parityStep t.2
  ({ t.1 with obuf := writeRun (outAddr + k + j) [parityByte p] t.1.obuf }, sr)

/-- One frame symbol by symbol, as the pseudocode of 44_streaming.md R184 writes it. -/
def workFrameBySymbol (c : Code) (o : WorkOps) (f : Nat) (s : State) : State :=
  let r := c.n.toNat - c.k.toNat
  let g : BitVec r := frameGen s c
  let t1 := forLoop c.k.toNat (infoSymbol g (frameInAddr c o f) (frameOutAddr c o f)) (s, 0#r)
  let t2 := forLoop r (paritySymbol (frameOutAddr c o f) c.k.toNat) t1
  { t2.1 with sr := t2.2.setWidth 192 }

end Sys2Proof.Machine
end

