-- ==== Sys2Proof/Machine/Dispatch.lean ====
section
/-! DEFINITION. exec: the engine performs a command (30_encoding.md R87). One arm per row of
spec/opcode_table.json. -/

namespace Sys2Proof.Machine

def exec (i : Instr) (s : State) : Host.Outcome State Fault Refusal :=
  match i with
  | .nop => Sys2Proof.Machine.execNop s
  | .cfg cls rate => Sys2Proof.Machine.execCfg cls rate s
  | .work eof => Sys2Proof.Machine.execWork eof s

end Sys2Proof.Machine
end

