-- ==== Sys2Proof/Machine/Engine.lean ====
section
/-! DEFINITION. The engine's step: BUILD after reset, or the completion of the pending command (10_state.md R20;
30_encoding.md R87), and how a command word is placed where the engine takes its next command. -/

namespace Sys2Proof.Machine

/-- The engine's step. It fetches its command from PEND; with none pending it runs BUILD in INIT and otherwise has
no work (10_state.md R20; 30_encoding.md R87; 70_reset_and_hazards.md R241). -/
def engineStep (s : State) : Host.Outcome State Fault Refusal :=
  match s.pend with
  | some p => exec p.instr s
  | none => if s.mode = .init then .next (build s) else .next s

/-- The state with a command as the one the engine takes next: latched in PEND with the operand registers' values,
the next turn the engine's. In INIT, where no command can run, MODE becomes IDLE (log entry 3). -/
def State.placeCommand (s : State) (i : Instr) : State :=
  { s with
    pend := some (s.pendingOf i)
    mode := if s.mode = .init then .idle else s.mode
    sched := .engine :: s.sched }

/-- The state with an illegal word as the host's next operation, WR CMD (log entry 3). -/
def State.placeIllegal (s : State) (w : Word) : State :=
  { s with
    hostOps := .write (.place (.reg Reg.cmd.offset)) .word w :: s.hostOps
    sched := .host :: s.sched }

end Sys2Proof.Machine
end

