-- ==== Sys2Proof/Machine/Accept.lean ====
section
/-! DEFINITION. Acceptance: what a host write of a word to CMD does (30_encoding.md R86; 60_exceptions.md R211 to
R214, R220). -/

namespace Sys2Proof.Machine

/-- Accept(v) (30_encoding.md R86): only the first failing check takes effect, and sets only its error's bit. -/
def accept (v : Word) (s : State) : State :=
  if s.mode = .init ∨ s.busy then s.raise .ovr
  else
    match decode v with
    | .illegal _ => s.raise .illcmd
    | .instr i =>
      match admissionError s i (s.snapshot false) with
      | some e => s.raise e
      | none => s.latch (s.pendingOf i)

end Sys2Proof.Machine
end

