-- ==== Sys2Proof/Machine/HostPort.lean ====
section
/-! DEFINITION. The host's port: register reads and writes (10_state.md R24 to R41; 20_memory.md R62), buffer reads
and writes (20_memory.md R63), the buffer hazard (70_reset_and_hazards.md R251, R252), the platform's windows
(20_memory.md R61), and one operation of the host (30_encoding.md R95, R96). hostRead and hostWrite say what the
hardware does, for accesses of every width and address; hostStep refuses those that 20_memory.md R62 and R63 do not
admit, as these rules tell a model to do (log entry 11). -/

namespace Sys2Proof.Machine

/-- What a read of a register returns (10_state.md R25 to R40). -/
def regValue (s : State) : Reg → Word
  | .id => 0xBC450001#32
  | .cmd => 0
  | .status => statusWord s
  | .err => s.err.setWidth 32
  | .cfg => cfgWord s
  | .codeK => codeKWord s
  | .codeN => codeNWord s
  | .codeInfo => codeInfoWord s
  | .inBase => s.inBase
  | .inAvail => s.inAvail
  | .outBase => s.outBase
  | .outSpace => s.outSpace
  | .consumed => s.consumed
  | .produced => s.produced
  | .frames => s.frames

/-- What a read at an offset returns; 0 at a reserved offset (10_state.md R41). -/
def offsetValue (s : State) (off : BitVec 12) : Word :=
  match Reg.ofOffset off with
  | some r => regValue s r
  | none => 0

/-- What a write of a register does (10_state.md R25 to R40): RW stores, ERR clears bits, CMD presents a command,
RO ignores. -/
def writeReg (r : Reg) (v : Word) (s : State) : State :=
  match r with
  | .cmd => accept v s
  | .err => s.writeErr v
  | .inBase => { s with inBase := v }
  | .inAvail => { s with inAvail := v }
  | .outBase => { s with outBase := v }
  | .outSpace => { s with outSpace := v }
  | .id => s
  | .status => s
  | .cfg => s
  | .codeK => s
  | .codeN => s
  | .codeInfo => s
  | .consumed => s
  | .produced => s
  | .frames => s

/-- What a write at an offset does; nothing at a reserved offset (10_state.md R41). -/
def writeOffset (off : BitVec 12) (v : Word) (s : State) : State :=
  match Reg.ofOffset off with
  | some r => writeReg r v s
  | none => s

/-- In hardware, a REG access that is not admitted sets BUS, and nothing else happens on the device (20_memory.md
R62; 60_exceptions.md R217); the state is marked (log entry 11). -/
def State.busError (s : State) : State := (s.raise .bus).setUnadmitted

/-- A host read of REG (20_memory.md R62). A read of STATUS that returns BUSY = 0 closes the hazard windows
(70_reset_and_hazards.md R251); no read changes the device (20_memory.md R66). -/
def hostReadReg (off : BitVec 12) (w : Width) (s : State) : State :=
  if regAdmitted off w then
    if Reg.ofOffset off = some .status ∧ s.busy = false then (s.pushResult (offsetValue s off)).closeWindows
    else s.pushResult (offsetValue s off)
  else s.busError.pushResult 0

/-- A host write of REG (20_memory.md R62). -/
def hostWriteReg (off : BitVec 12) (w : Width) (v : Word) (s : State) : State :=
  if regAdmitted off w then writeOffset off v s else s.busError

/-- The WORKs whose hazard window is open (70_reset_and_hazards.md R251). -/
def State.openWorks (s : State) : List WorkOps :=
  s.unpolled.filterMap fun p =>
    match p with
    | .work o => some o
    | .nop => none
    | .cfg _ _ => none

/-- Whether n bytes from a and len bytes from base have a byte in common. -/
def touches (base len a n : Nat) : Bool := max a base < min (a + n) (base + len)

/-- A breach of 70_reset_and_hazards.md R252 (a): a host write of IBUF touches the input window of a WORK whose
hazard window is open. -/
def breachesInput (s : State) (a n : Nat) : Bool :=
  s.openWorks.any fun o => touches o.inBase.toNat o.inAvail.toNat a n

/-- A breach of 70_reset_and_hazards.md R252 (b): a host access of OBUF touches the output window of a WORK whose
hazard window is open. -/
def breachesOutput (s : State) (a n : Nat) : Bool :=
  s.openWorks.any fun o => touches o.outBase.toNat o.outSpace.toNat a n

/-- A host read of IBUF (20_memory.md R63); in hardware it returns 0 where not admitted (log entry 11). -/
def hostReadIbuf (a : BitVec 32) (w : Width) (s : State) : State :=
  if bufAdmitted s.params.ibufBytes a w then
    (s.pushResult (leWord (readBytes s.ibuf a.toNat w.bytes s.draws))).advanceDraws w.bytes
  else s.setUnadmitted.pushResult 0

/-- A host read of OBUF (20_memory.md R63). In breach of the hazard rule HAZ is set and the value is free
(70_reset_and_hazards.md R252; log entry 10). -/
def hostReadObuf (a : BitVec 32) (w : Width) (s : State) : State :=
  if bufAdmitted s.params.obufBytes a w then
    if breachesOutput s a.toNat w.bytes then
      (s.setHaz.pushResult (leWord (freeBytes w.bytes s.draws))).advanceDraws w.bytes
    else (s.pushResult (leWord (readBytes s.obuf a.toNat w.bytes s.draws))).advanceDraws w.bytes
  else s.setUnadmitted.pushResult 0

/-- A host write of IBUF (20_memory.md R63). In breach of the hazard rule HAZ is set and the access has no other
effect (70_reset_and_hazards.md R252). -/
def hostWriteIbuf (a : BitVec 32) (w : Width) (v : Word) (s : State) : State :=
  if bufAdmitted s.params.ibufBytes a w then
    if breachesInput s a.toNat w.bytes then s.setHaz
    else { s with ibuf := writeRun a.toNat (leBytes w.bytes v) s.ibuf }
  else s.setUnadmitted

/-- A host write of OBUF (20_memory.md R63; 70_reset_and_hazards.md R252). -/
def hostWriteObuf (a : BitVec 32) (w : Width) (v : Word) (s : State) : State :=
  if bufAdmitted s.params.obufBytes a w then
    if breachesOutput s a.toNat w.bytes then s.setHaz
    else { s with obuf := writeRun a.toNat (leBytes w.bytes v) s.obuf }
  else s.setUnadmitted

/-- One read of a place. -/
def hostRead (p : Place) (w : Width) (s : State) : State :=
  match p with
  | .reg off => hostReadReg off w s
  | .ibuf a => hostReadIbuf a w s
  | .obuf a => hostReadObuf a w s

/-- One write of a place. -/
def hostWrite (p : Place) (w : Width) (v : Word) (s : State) : State :=
  match p with
  | .reg off => hostWriteReg off w v s
  | .ibuf a => hostWriteIbuf a w v s
  | .obuf a => hostWriteObuf a w v s

/-- The places of BCH-ENC at a platform address: one per window the address lies in (20_memory.md R61). -/
def windowsAt (p : Params) (addr : Nat) : List Place :=
  (if p.regBase ≤ addr ∧ addr < p.regBase + 4096 then [Place.reg (BitVec.ofNat 12 (addr - p.regBase))] else []) ++
    (if p.ibufBase ≤ addr ∧ addr < p.ibufBase + p.ibufBytes then
      [Place.ibuf (BitVec.ofNat 32 (addr - p.ibufBase))] else []) ++
    (if p.obufBase ≤ addr ∧ addr < p.obufBase + p.obufBytes then
      [Place.obuf (BitVec.ofNat 32 (addr - p.obufBase))] else [])

/-- The place a host operation names; none for a platform address in no window, or in more than one (log entry
12). -/
def locate (p : Params) : Target → Option Place
  | .place pl => some pl
  | .bus addr =>
    match windowsAt p addr with
    | [pl] => some pl
    | [] => none
    | _ :: _ :: _ => none

/-- One read of STATUS by POLL or WAITINIT; the operation is done when the read satisfies it (30_encoding.md
R96). -/
def pollStatus (done : Bool) (s : State) : State :=
  let s1 := hostReadReg Reg.status.offset .word s
  if done then s1.popOp else s1

/-- Who performs a host access: the model, which refuses one that is not admitted, or the hardware, which does not
(20_memory.md R62, R63). -/
inductive AccessRule where
  | model | hardware
  deriving DecidableEq, Repr

/-- The end of a host access that leads to t: refused by the model where it is not admitted (20_memory.md R62, R63;
60_exceptions.md R217). -/
def hostAccess (rule : AccessRule) (params : Params) (p : Place) (w : Width) (t : State) :
    Host.Outcome State Fault Refusal :=
  if rule = .model ∧ placeAdmitted params w p = false then .refused (.unadmittedAccess p w) else .next t

/-- One operation of the host under an access rule (30_encoding.md R95, R96). A host with nothing to do leaves the
state as it is (60_exceptions.md R232). -/
def hostMove (rule : AccessRule) (s : State) : Host.Outcome State Fault Refusal :=
  match s.hostOps with
  | [] => .next s
  | .read t w :: _ =>
    match locate s.params t with
    | some p => hostAccess rule s.params p w (hostRead p w s.popOp)
    | none => .fault (.outsideWindows t)
  | .write t w v :: _ =>
    match locate s.params t with
    | some p => hostAccess rule s.params p w (hostWrite p w v s.popOp)
    | none => .fault (.outsideWindows t)
  | .poll :: _ => .next (pollStatus ((statusWord s).getLsbD 3 = false) s)
  | .waitInit :: _ => .next (pollStatus ((statusWord s).extractLsb' 0 3 ≠ 0) s)

/-- One operation of the host in the model. -/
def hostStep (s : State) : Host.Outcome State Fault Refusal := hostMove .model s

end Sys2Proof.Machine
end

