-- ==== Sys2Proof/Machine/HostProgram.lean ====
section
/-! DEFINITION. The host syntax as operations (30_encoding.md R94 to R96): register writes and reads by name,
commands by mnemonic, and the pseudo-operations that expand to several operations. -/

namespace Sys2Proof.Machine

/-- `WR <reg>, <imm32>` (30_encoding.md R95). -/
def opWr (r : Reg) (v : Word) : HostOp := .write (.place (.reg r.offset)) .word v

/-- `RD <reg>` (30_encoding.md R95). -/
def opRd (r : Reg) : HostOp := .read (.place (.reg r.offset)) .word

/-- A command mnemonic standing alone: WR CMD with its word (30_encoding.md R94, R95). -/
def opCommand (i : Instr) : HostOp := opWr .cmd (encode i)

/-- `CFG <class>, <rate>` by names (30_encoding.md R94). -/
def cfgNamed (cls : FrameClass) (label : RateLabel) : Instr := .cfg cls.code label.code

/-- `<cmd>!`: the command, then POLL (30_encoding.md R96). -/
def opsCommandPoll (i : Instr) : List HostOp := [opCommand i, .poll]

/-- `FILL IBUF[a..b], v`: one SB per byte, in increasing address order (30_encoding.md R96). -/
def opsFill (a b : Nat) (v : Byte) : List HostOp :=
  (List.range (b + 1 - a)).map fun i => .write (.place (.ibuf (BitVec.ofNat 32 (a + i)))) .byte (v.setWidth 32)

/-- `CLRERR`: WR ERR, 0x0000007F (30_encoding.md R96). -/
def opClrErr : HostOp := opWr .err 0x0000007F#32

end Sys2Proof.Machine
end

