-- ==== Sys2Proof/Machine/Step.lean ====
section
/-! DEFINITION. One step of the machine: the agent whose turn it is moves (10_state.md R20; 30_encoding.md R87). -/

namespace Sys2Proof.Machine

/-- One step: the host's, the engine's, or the reset input's (log entry 2). -/
def step (s : State) : Host.Outcome State Fault Refusal :=
  match s.turn with
  | .engine => engineStep s.popTurn
  | .host => hostStep s.popTurn
  | .reset => .next s.popTurn.applyReset

/-- s with the command word w (bits above nbits 0) where the engine takes its next command, so that the very next
step performs it; an illegal word becomes the host's next write to CMD (log entry 3). -/
def State.withFetchWord (s : State) (nbits w : Nat) : State :=
  match decodeTableWord nbits w with
  | some i => s.placeCommand i
  | none => s.placeIllegal (BitVec.ofNat 32 (w % 2 ^ min nbits 32))

end Sys2Proof.Machine
end

