-- ==== Sys2Proof/Machine/Hardware.lean ====
section
/-! DEFINITION. A step of a hardware run: the model's step, but that a host access which 20_memory.md R62 or R63 does
not admit takes the effect these rules and 60_exceptions.md R217 give the hardware. Only here is ERR.BUS ever set (log
entry 11). -/

namespace Sys2Proof.Machine

/-- One step of a hardware run. -/
def hardwareStep (s : State) : Host.Outcome State Fault Refusal :=
  match s.turn with
  | .engine => step s
  | .reset => step s
  | .host => hostMove .hardware s.popTurn

end Sys2Proof.Machine
end

