-- ==== Sys2Proof/Safety.lean ====
section
/-! DEFINITION. What claims are made of: the invariant of reachable states (10_state.md R49 and what the rules
imply), the premises and ends of runs (30_encoding.md R97; 70_reset_and_hazards.md R246, R258), the observable end
state, BUILD's failure conditions (42_generator_table.md R131), and the polynomials over GF(2) that bit strings
stand for (00_scope.md R14, R16). -/

namespace Sys2Proof.Safety

open Sys2Proof.Machine

/-- 10_state.md R49 for a resolved configuration: n - k = R_fam and 0 < k < n. -/
abbrev codeWf (c : Code) : Prop :=
  0 < c.k.toNat ∧ c.k.toNat < c.n.toNat ∧ c.n.toNat - c.k.toNat = c.fam.redundancy

/-- 10_state.md R49: the reports agree with the configuration; all 0 with none. -/
abbrev reportsWf (s : State) : Prop :=
  match s.code with
  | some c => s.consumed.toNat = c.k.toNat * s.frames.toNat ∧ s.produced.toNat = c.n.toNat * s.frames.toNat
  | none => s.consumed = 0 ∧ s.produced = 0 ∧ s.frames = 0

/-- The operands a pending command was latched with; the rest of admissionError does not read them for a command
that is no WORK. -/
def pendingOps (s : State) : Pending → WorkOps
  | .work o => o
  | .nop => s.snapshot false
  | .cfg _ _ => s.snapshot false

/-- The invariant of every reachable state. -/
structure Inv (s : State) : Prop where
  /-- 10_state.md R49: MODE = ACTIVE exactly when CODE is not none. -/
  activeIffCode : s.mode = .active ↔ s.code ≠ none
  /-- 10_state.md R49: MODE = FAULT exactly when ERR.TABLE = 1. -/
  faultIffTable : s.mode = .fault ↔ s.hasErr .table = true
  /-- 10_state.md R49: the resolved configuration's lengths. -/
  code : ∀ c, s.code = some c → codeWf c
  /-- 10_state.md R49: BUSY = 1 only in IDLE, ACTIVE or FAULT; and a pending command is still admitted, its windows in
  range (30_encoding.md R86, 20_memory.md R76). -/
  pend : ∀ p, s.pend = some p → admissionError s p.instr (pendingOps s p) = none
  /-- 10_state.md R49: the reports. -/
  reports : reportsWf s
  /-- 42_generator_table.md R132: after BUILD, GEN holds what BUILD builds. -/
  gen : s.mode = .idle ∨ s.mode = .active →
    ∀ f, buildFamily s.params.maxLen f (s.rom.factors.get f) = some (s.gen.get f)
  /-- Both buffers in canonical form, inside their sizes (20_memory.md R63, R65). -/
  memory : memWf s.ibuf ∧ memBelow s.params.ibufBytes s.ibuf ∧ memWf s.obuf ∧ memBelow s.params.obufBytes s.obuf
  /-- 42_generator_table.md R126: the configuration table is one the spec admits. -/
  table : configTableWf s.rom.config = true
  /-- 00_scope.md R10: the parameters are within their bounds. -/
  params : s.params.wf s.rom.config = true
  /-- 70_reset_and_hazards.md R251: a running command's hazard window is open. -/
  window : ∀ p, s.pend = some p → p ∈ s.unpolled
  /-- 44_streaming.md R186, R187: DRAINED and STALL exclude each other. -/
  flags : ¬(s.drained = true ∧ s.stall = true)
  /-- 60_exceptions.md R217: in the model BUS is never set; nor is the mark of a hardware run (log entry 11). -/
  bus : s.hasErr .bus = false ∧ s.unadmitted = false

/-- The observable end state (30_encoding.md R97): the REG registers (ERR and MODE among them) and the buffer bytes
that some write has stored. -/
def observe (s : State) : List Word × List Host.Cell × List Host.Cell :=
  (allRegs.map (regValue s), s.ibuf, s.obuf)

/-- Whether a host operation writes a word to CMD. -/
def presentsCommand (p : Params) : HostOp → Bool
  | .write t _ _ => locate p t = some (.reg Reg.cmd.offset)
  | .read _ _ => false
  | .poll => false
  | .waitInit => false

/-- The operation names a place of BCH-ENC (20_memory.md R61). -/
def opLocated (p : Params) : HostOp → Bool
  | .read t _ => (locate p t).isSome
  | .write t _ _ => (locate p t).isSome
  | .poll => true
  | .waitInit => true

/-- What 20_memory.md R62 (REG) and R63 (the buffers) do not admit: a REG access that is no word at a multiple of 4; a
buffer word at no multiple of 4; a buffer access with a byte outside the buffer. -/
def Unadmitted (p : Params) (w : Width) : Place → Prop
  | .reg off => w = .byte ∨ off.toNat % 4 ≠ 0
  | .ibuf a => (w = .word ∧ a.toNat % 4 ≠ 0) ∨ p.ibufBytes < a.toNat + w.bytes
  | .obuf a => (w = .word ∧ a.toNat % 4 ≠ 0) ∨ p.obufBytes < a.toNat + w.bytes

/-- The operation names a place and is admitted there (20_memory.md R62, R63); POLL and WAITINIT always are. -/
def opAdmitted (p : Params) : HostOp → Bool
  | .read t w => (locate p t).any (placeAdmitted p w)
  | .write t w _ => (locate p t).any (placeAdmitted p w)
  | .poll => true
  | .waitInit => true

/-- n bytes of IBUF from a lie outside the input window of every WORK whose hazard window is open
(70_reset_and_hazards.md R252 (a), R253). -/
def ClearOfInputs (s : State) (a n : Nat) : Prop :=
  ∀ o x, Pending.work o ∈ s.unpolled → a ≤ x → x < a + n →
    ¬(o.inBase.toNat ≤ x ∧ x < o.inBase.toNat + o.inAvail.toNat)

/-- n bytes of OBUF from a lie outside the output window of every WORK whose hazard window is open
(70_reset_and_hazards.md R252 (b), R253). -/
def ClearOfOutputs (s : State) (a n : Nat) : Prop :=
  ∀ o x, Pending.work o ∈ s.unpolled → a ≤ x → x < a + n →
    ¬(o.outBase.toNat ≤ x ∧ x < o.outBase.toNat + o.outSpace.toNat)

/-- The program issues no command after its last POLL (30_encoding.md R97). -/
def endsPolled (p : Params) (program : List HostOp) : Bool :=
  (program.reverse.takeWhile fun op => op ≠ .poll).all fun op => !presentsCommand p op

/-- The end of a host program's run (30_encoding.md R97): m steps after its start, the last operation has just been
done, the commands are polled, HAZ is clear. A reset before that is one of the run's steps, and one after it is not of
the run; the rule does not speak of resets (log entry 25). -/
structure EndOfRun (program : List HostOp) (start : State) (m : Nat) (s : State) : Prop where
  starts : start.hostOps = program
  run : Host.Core.run core m start = .next s
  done : s.hostOps = []
  /-- The end is the state right after the last operation: some operation is still to be done in each state before. -/
  first : ∀ j, j < m → ∀ u, Host.Core.run core j start = .next u → u.hostOps ≠ []
  polled : endsPolled s.params program = true
  haz : s.haz = false

/-- A successful end of run (70_reset_and_hazards.md R258). No state of the run, from its start on, is in FAULT or has
HAZ set, so a reset on the way hides neither. That a command which a reset abandons has not completed, so that a run
whose last accepted command is abandoned is not over, is the model's choice (log entry 25). -/
structure SuccessfulEnd (program : List HostOp) (start : State) (m : Nat) (s : State) : Prop
    extends EndOfRun program start m s where
  mode : s.mode ≠ .fault
  pend : s.pend = none
  /-- Whatever follows: the whole run is looked at, not its end only. -/
  never : ∀ j, j ≤ m → ∀ u, Host.Core.run core j start = .next u → u.mode ≠ .fault ∧ u.haz = false
  /-- A run whose last command has not completed is not over: after a reset that abandons a command (R240), another
  one is accepted. -/
  completed : ∀ j, j < m → ∀ u, Host.Core.run core j start = .next u → u.turn = .reset → u.pend ≠ none →
    ∃ i v, j < i ∧ i ≤ m ∧ Host.Core.run core i start = .next v ∧ v.pend ≠ none
  /-- No part of the run was a hardware run's unadmitted access (log entry 11). -/
  admitted : s.unadmitted = false

/-- The named start premise CleanStart (70_reset_and_hazards.md R246); the parameters are within 00_scope.md R10's
bounds, and M12's factors pass BUILD's checks. -/
structure CleanStart (s : State) : Prop where
  mode : s.mode = .idle
  status : statusWord s = 0x00000001
  err : s.err = 0
  pend : s.pend = none
  code : s.code = none
  registers : ∀ r, r ≠ .status → regValue s r = regValue State.reset r
  config : s.rom.config = referenceConfig
  factors : ∃ m12, s.rom.factors = factorsWithMedium m12 ∧
    buildFamily s.params.maxLen .m12 m12 = some (s.gen.get .m12)
  genN12 : s.gen.get .n12 =
    [0xE7AA4066, 0xEFA1E2C0, 0x9110AC3B, 0x1B34F30A, 0x388A3A21, 0xC1706472]
  genN10 : s.gen.get .n10 = [0x89A6DD1D, 0x80C48BF7, 0xC0EA1E56, 0xF8CC543F, 0xB730A806]
  genN8 : s.gen.get .n8 = [0xD4669F20, 0xAEB63F98, 0xBDE9E48E, 0xFAA4E038]
  genS12 : s.gen.get .s12 =
    [0xA5A0988B, 0xEBE7F14A, 0x9609C5C4, 0xB3464D96, 0x1957DB46, 0x02000000]
  haz : s.haz = false
  buffers : s.ibuf = [] ∧ s.obuf = []
  /-- Right after BUILD no command has been accepted, so no hazard window is open (70_reset_and_hazards.md R251). -/
  windows : s.unpolled = []
  /-- The mark of a hardware run is clear (log entry 11). -/
  admitted : s.unadmitted = false
  params : s.params.wf referenceConfig = true

/-- The product of the first i factors, in table order (42_generator_table.md R130). -/
def productOfFirst (factors : List Poly) (i : Nat) : Poly := (factors.take i).foldl polyMul [true]

/-- 42_generator_table.md R131 (c): some product would exceed MAXLEN coefficients. -/
def ProductOverflows (maxLen : Nat) (factors : List Poly) : Prop :=
  ∃ i, ∃ h : i < factors.length, maxLen + 1 < (productOfFirst factors i).length + (factors[i]'h).length

/-- 42_generator_table.md R131 (a): the product's degree differs from R_f. -/
def DegreeDiffers (f : Family) (factors : List Poly) : Prop :=
  (productOfFirst factors factors.length).length ≠ f.redundancy + 1

/-- 42_generator_table.md R131 (b): the packed word count differs from W_f. -/
def WordsDiffer (f : Family) (factors : List Poly) : Prop :=
  (pack ((productOfFirst factors factors.length).take f.redundancy)).length ≠ f.words

/-- A bit as an element of GF(2) (41_polynomial_algebra.md R100). -/
def gf2 (b : Bool) : ZMod 2 := if b then 1 else 0

/-- The polynomial of a coefficient vector (00_scope.md R14). -/
noncomputable def polyOf (p : Poly) : Polynomial (ZMod 2) :=
  ∑ i ∈ Finset.range p.length, Polynomial.C (gf2 (polyCoeff p i)) * Polynomial.X ^ i

/-- The polynomial of a stream of symbols: the first symbol is the highest-degree coefficient (00_scope.md R16). -/
noncomputable def streamPoly (c : List Bool) : Polynomial (ZMod 2) :=
  ∑ i ∈ Finset.range c.length, Polynomial.C (gf2 (c.getD i false)) * Polynomial.X ^ (c.length - 1 - i)

/-- The polynomial an r-cell register holds: cell i is the coefficient of x^i (43_lfsr_encoder.md R157). -/
noncomputable def cellsPoly {r : Nat} (sr : BitVec r) : Polynomial (ZMod 2) :=
  ∑ i ∈ Finset.range r, Polynomial.C (gf2 (sr.getLsbD i)) * Polynomial.X ^ i

/-- The generator g(x): the stored coefficients and the implicit leading one (43_lfsr_encoder.md, notation;
41_polynomial_algebra.md R106). -/
noncomputable def generatorPoly {r : Nat} (g : BitVec r) : Polynomial (ZMod 2) :=
  Polynomial.X ^ r + cellsPoly g

/-- The symbol a WORK performed in s reads at IBUF address ib + j: the stored byte, or the draw that the j-th read of
the WORK takes (20_memory.md R69; log entry 5). -/
def workSymbol (s : State) (o : WorkOps) (j : Nat) : Byte :=
  (memRead s.ibuf (o.inBase.toNat + j)).getD (Config.freeByte (s.draws + j))

/-- The information bits of frame f of a WORK performed in s (44_streaming.md R183, R188). -/
def workBits (s : State) (c : Code) (o : WorkOps) (f : Nat) : List Bool :=
  (List.range c.k.toNat).map fun j => symbolBit (workSymbol s o (f * c.k.toNat + j))

/-- The n bytes OBUF holds for frame f of a WORK with configuration c and operands o, in stream order
(44_streaming.md R183); 0 where no write has stored a byte. -/
def outputFrame (s : State) (c : Code) (o : WorkOps) (f : Nat) : List Byte :=
  (List.range c.n.toNat).map fun i => (memRead s.obuf (frameOutAddr c o f + i)).getD 0

/-- The address right after the last byte a WORK stores: the first PRODUCED bytes of the output window are stored
(44_streaming.md R182). -/
def outputEnd (c : Code) (o : WorkOps) : Nat := o.outBase.toNat + c.n.toNat * frameCount c o

/-- Every symbol the frames of a WORK read has been stored by some write. -/
def InputStored (s : State) (c : Code) (o : WorkOps) : Prop :=
  ∀ j, j < c.k.toNat * frameCount c o → memRead s.ibuf (o.inBase.toNat + j) ≠ none

end Sys2Proof.Safety
end

