-- ==== Sys2Proof/Certificates/Slice0/Obligations.lean ====
section
/-! DEFINITION. The statements for the provers. OBLIGATIONS.json gives each its title, its rules and its tier. -/

open Sys2Proof Sys2Proof.Machine Sys2Proof.Safety

/-! ## Encoding (30_encoding.md) -/

/-- 30_encoding.md R82 to R84, R93, R94: decode and encode agree, both ways. -/
def Obligations.WordsAndCommandsCorrespond : Prop :=
  ∀ (w : Word) (i : Instr), i.wf = true → (decode w = .instr i ↔ w = encode i)

/-- 30_encoding.md R85, R91: the legal words are the NOP word, the CFG words 0x00RR0C01 and the two WORK words; every
other word is illegal, by its opcode or by a reserved bit. -/
def Obligations.LegalAndIllegalWords : Prop :=
  ∀ w : Word,
    ((∃ i, decode w = .instr i) ↔
      w = 0x00000000#32 ∨ (∃ r c : Nat, r < 64 ∧ c < 4 ∧ w = BitVec.ofNat 32 (r * 65536 + c * 256 + 1)) ∨
        w = 0x00000002#32 ∨ w = 0x00000102#32) ∧
      (decode w = .illegal .reservedOpcode ↔ 3 ≤ w.toNat % 16) ∧
      (decode w = .illegal .reservedBits ↔
        (w.toNat % 16 = 0 ∧ w ≠ 0) ∨ (w.toNat % 16 = 1 ∧ w &&& 0xFFC0FCF0#32 ≠ 0) ∨
          (w.toNat % 16 = 2 ∧ w &&& 0xFFFFFEF0#32 ≠ 0))

/-- 95_test_vectors.md section 2.3: words of the manual and what they decode to (30_encoding.md R93). -/
def Obligations.ManualWordsDecode : Prop :=
  decode 0x00000000#32 = .instr .nop ∧ decode 0x00000100#32 = .illegal .reservedBits ∧
    decode 0x00000001#32 = .instr (.cfg 0 0) ∧ decode 0x00030001#32 = .instr (.cfg 0 3) ∧
    decode 0x003F0301#32 = .instr (.cfg 3 63) ∧ decode 0x00400001#32 = .illegal .reservedBits ∧
    decode 0x00000002#32 = .instr (.work false) ∧ decode 0x00000102#32 = .instr (.work true) ∧
    decode 0x80000002#32 = .illegal .reservedBits ∧ decode 0xFFFFFFFF#32 = .illegal .reservedOpcode

/-! ## A step runs the decoded command (30_encoding.md R86, R87) -/

/-- The step at a state with a command word placed performs the command the decoder reads from it. That placing a
command means to latch it in PEND, and to replace INIT by IDLE, is the model's choice (log entry 3). -/
def Obligations.StepRunsPlacedCommand : Prop :=
  ∀ (s : State) (nbits w : Nat) (i : Instr), decodeTableWord nbits w = some i →
    step (s.withFetchWord nbits w) =
      exec i { s with pend := some (s.pendingOf i), mode := if s.mode = .init then .idle else s.mode }

/-- 30_encoding.md R87: on the engine's turn the pending command is performed; around it the step only uses up the
turn. -/
def Obligations.StepCompletesPendingCommand : Prop :=
  ∀ (s : State) (p : Pending), s.turn = .engine → s.pend = some p →
    step s = exec p.instr { s with sched := s.sched.tail }

/-- 10_state.md R27: on the host's turn, WR CMD presents the word it writes. -/
def Obligations.StepPresentsWrittenWord : Prop :=
  ∀ (s : State) (v : Word) (ops : List HostOp), s.turn = .host → s.hostOps = opWr .cmd v :: ops →
    step s = .next (accept v { s with hostOps := ops, sched := s.sched.tail })

/-! ## Acceptance and errors (30_encoding.md R86; 60_exceptions.md) -/

/-- 30_encoding.md R86: the checks in order, each rejection setting only its ERR bit; an accepted command is latched
with its operands, and BUSY reads 1. -/
def Obligations.AcceptanceFollowsPriority : Prop :=
  ∀ (s : State) (v : Word),
    (s.mode = .init ∨ s.pend ≠ none → accept v s = { s with err := s.err ||| 0b0000010#7 }) ∧
    (s.mode ≠ .init → s.pend = none →
      ((∀ i, v ≠ encode i) → accept v s = { s with err := s.err ||| 0b0000001#7 }) ∧
      (∀ i, v = encode i →
        (s.mode = .fault → i ≠ .nop → accept v s = { s with err := s.err ||| 0b0000100#7 }) ∧
        (∀ e, i = .work e → s.mode ≠ .active → accept v s = { s with err := s.err ||| 0b0000100#7 }) ∧
        (∀ e, i = .work e → s.mode = .active →
          (s.params.ibufBytes < s.inBase.toNat + s.inAvail.toNat ∨
            s.params.obufBytes < s.outBase.toNat + s.outSpace.toNat) →
          accept v s = { s with err := s.err ||| 0b0001000#7 }) ∧
        ((i = .nop ∨ (∃ c r, i = .cfg c r ∧ s.mode ≠ .fault) ∨
            (∃ e, i = .work e ∧ s.mode = .active ∧
              s.inBase.toNat + s.inAvail.toNat ≤ s.params.ibufBytes ∧
              s.outBase.toNat + s.outSpace.toNat ≤ s.params.obufBytes)) →
          accept v s = { s with pend := some (s.pendingOf i), unpolled := s.pendingOf i :: s.unpolled } ∧
            (statusWord (accept v s)).getLsbD 3 = true)))

/-- The errors are those of 60_exceptions.md R212, R213, R214, which speak of a write to CMD. That exec makes the same
checks again, and clears PEND with the error, is the model's choice (log entry 14). -/
def Obligations.CommandsTurnedAway : Prop :=
  ∀ s : State,
    (s.mode = .init → ∀ i, exec i s = .next { s with err := s.err ||| 0b0000010#7, pend := none }) ∧
    (s.mode = .fault → ∀ i, i ≠ .nop → exec i s = .next { s with err := s.err ||| 0b0000100#7, pend := none }) ∧
    (s.mode = .idle → ∀ e, exec (.work e) s = .next { s with err := s.err ||| 0b0000100#7, pend := none }) ∧
    (s.mode = .active → ∀ e,
      (s.params.ibufBytes < (s.workOps e).inBase.toNat + (s.workOps e).inAvail.toNat ∨
        s.params.obufBytes < (s.workOps e).outBase.toNat + (s.workOps e).outSpace.toNat) →
      exec (.work e) s = .next { s with err := s.err ||| 0b0001000#7, pend := none })

/-- 60_exceptions.md R220: a command pending in a state that meets the invariant raises no error but SYM. -/
def Obligations.AcceptedCommandRaisesOnlySym : Prop :=
  ∀ (s : State) (p : Pending), Inv s → s.pend = some p →
    ∃ t, exec p.instr s = .next t ∧ t.pend = none ∧
      (t.err = s.err ∨ ((∃ o, p = .work o) ∧ t.err = s.err ||| 0b0010000#7))

/-- 60_exceptions.md R221: a write of 1 to ERR.SYM and a completion that raises SYM, in either order. -/
def Obligations.ErrWriteAndCompletionInEitherOrder : Prop :=
  ∀ (s t : State) (i : Instr) (v : Word), exec i s = .next t → s.hasErr .sym = false → t.hasErr .sym = true →
    v.getLsbD 4 = true →
    (t.writeErr v).hasErr .sym = false ∧ ∃ t', exec i (s.writeErr v) = .next t' ∧ t'.hasErr .sym = true

/-- 60_exceptions.md R216: FAULT and ERR.TABLE are left only by reset. -/
def Obligations.FaultLeftOnlyByReset : Prop :=
  ∀ s t : State, step s = .next t → s.turn ≠ .reset →
    (s.mode = .fault → t.mode = .fault) ∧ (s.hasErr .table = true → t.hasErr .table = true)

/-! ## NOP and CFG (44_streaming.md R190; 42_generator_table.md R137) -/

/-- 44_streaming.md R190: NOP completes in IDLE, ACTIVE and FAULT and changes nothing but PEND. -/
def Obligations.NopChangesOnlyPend : Prop :=
  ∀ s : State, s.mode ≠ .init → exec .nop s = .next { s with pend := none }

/-- 42_generator_table.md R134, R137: CFG's whole effect, for a supported and for an unsupported pair. -/
def Obligations.CfgStoresAndResolvesItsPair : Prop :=
  ∀ (s : State) (cls : BitVec 2) (rate : BitVec 6), s.mode = .idle ∨ s.mode = .active →
    (∀ e, lookupConfig s.rom.config cls rate = some e →
      exec (.cfg cls rate) s =
        .next { s with
          cfgClass := cls, cfgRate := rate, consumed := 0, produced := 0, frames := 0, drained := false,
          stall := false, mode := .active, unsup := false, pend := none,
          code := some { cls := cls, rate := rate, k := e.n - BitVec.ofNat 16 e.fam.redundancy, n := e.n,
                         fam := e.fam } }) ∧
    (lookupConfig s.rom.config cls rate = none →
      exec (.cfg cls rate) s =
        .next { s with
          cfgClass := cls, cfgRate := rate, consumed := 0, produced := 0, frames := 0, drained := false,
          stall := false, mode := .idle, unsup := true, pend := none, code := none })

/-- 95_test_vectors.md section 2.4: the registers after CFG with the reference table. -/
def Obligations.CfgReferenceResults : Prop :=
  ∀ s : State, s.mode = .idle ∨ s.mode = .active → s.rom.config = referenceConfig → s.err = 0 →
    ∀ row ∈ ([(0x00030001, 0x00030000, 0x02, 0x7DD0, 0x7E90, 0xE0C0), (0x00050001, 0x00050000, 0x02, 0xA820, 0xA8C0, 0xD1A0),
        (0x000B0001, 0x000B0000, 0x02, 0xE350, 0xE3D0, 0xC280), (0x00000101, 0x00000100, 0x02, 0x0C00, 0x0CA8, 0xE3A8),
        (0x002C0201, 0x002C0200, 0x02, 0x297C, 0x2A30, 0xE4B4), (0x000B0101, 0x000B0100, 0x11, 0, 0, 0),
        (0x003F0301, 0x003F0300, 0x11, 0, 0, 0)] : List (Word × Word × Word × Word × Word × Word)),
      ∃ i t, decode row.1 = .instr i ∧ exec i s = .next t ∧ regValue t .cfg = row.2.1 ∧
        regValue t .status = row.2.2.1 ∧ regValue t .codeK = row.2.2.2.1 ∧ regValue t .codeN = row.2.2.2.2.1 ∧
        regValue t .codeInfo = row.2.2.2.2.2

/-- 42_generator_table.md R129: a shown configuration's n - k is the redundancy its CODE_INFO shows, one of the five
values. -/
def Obligations.ShownLengthsDifferByRedundancy : Prop :=
  ∀ s : State, Inv s → s.mode = .active →
    regValue s .codeN - regValue s .codeK = regValue s .codeInfo &&& 0xFF#32 ∧
      (regValue s .codeInfo &&& 0xFF#32).toNat ∈ [128, 160, 168, 180, 192]

/-- 42_generator_table.md R136: a later CFG of the same pair, with no reset between, resolves to the same
configuration and the same generator. -/
def Obligations.SamePairSameConfiguration : Prop :=
  ∀ (s t u : State) (cls : BitVec 2) (rate : BitVec 6) (m : Nat), s.mode = .idle ∨ s.mode = .active →
    exec (.cfg cls rate) s = .next t → Turn.reset ∉ t.sched → Host.Core.run core m t = .next u →
    ∃ v, exec (.cfg cls rate) u = .next v ∧ v.code = t.code ∧
      ∀ c, v.code = some c → v.gen.get c.fam = t.gen.get c.fam

/-- 42_generator_table.md R127, R128: the reference table is one the spec admits, has 60 entries, and leaves 196 of
the 256 CFG words unsupported, among them class 3, the unassigned rates and the placeholders. -/
def Obligations.ReferenceTableSupportsSixtyPairs : Prop :=
  configTableWf referenceConfig = true ∧ referenceConfig.length = 60 ∧
    (((List.range 4).flatMap fun c => (List.range 64).map fun r => (c, r)).filter fun x =>
      (lookupConfig referenceConfig (BitVec.ofNat 2 x.1) (BitVec.ofNat 6 x.2)).isNone).length = 196 ∧
    ∀ (c : BitVec 2) (r : BitVec 6), c = 3 ∨ 51 ≤ r.toNat ∨ r = 9 ∨ r = 50 →
      lookupConfig referenceConfig c r = none

/-! ## ROM, GEN and BUILD (42_generator_table.md) -/

/-- 10_state.md R43, R44; 42_generator_table.md R123: no step changes the ROM or the parameters; only BUILD writes GEN,
and only reset makes it unspecified. -/
def Obligations.RomIsFixedAndOnlyBuildWritesGen : Prop :=
  ∀ s t : State, step s = .next t →
    t.rom = s.rom ∧ t.params = s.params ∧
      (t.gen ≠ s.gen → s.turn = .reset ∨ (s.turn = .engine ∧ s.pend = none ∧ s.mode = .init))

/-- 42_generator_table.md R130, R131: BUILD ends in FAULT with TABLE exactly when some family's product has the wrong
degree, the wrong word count, or exceeds MAXLEN; else in IDLE with ERR as it was; and it changes nothing else but
GEN. -/
def Obligations.BuildFailsExactlyOnInconsistency : Prop :=
  ∀ s : State,
    ((∃ f, ProductOverflows s.params.maxLen (s.rom.factors.get f) ∨ DegreeDiffers f (s.rom.factors.get f) ∨
        WordsDiffer f (s.rom.factors.get f)) →
      build s = { s with mode := .fault, err := s.err ||| 0b0100000#7, gen := (build s).gen }) ∧
    ((∀ f, ¬ProductOverflows s.params.maxLen (s.rom.factors.get f) ∧ ¬DegreeDiffers f (s.rom.factors.get f) ∧
        ¬WordsDiffer f (s.rom.factors.get f)) →
      build s = { s with mode := .idle, gen := (build s).gen })

/-- 42_generator_table.md R132: GEN after a successful BUILD, until reset. -/
def Obligations.GenHoldsProductOfFactors : Prop :=
  ∀ s : State, (build s).mode = .idle →
    ∀ f : Family,
      (build s).gen.get f =
        pack ((productOfFirst (s.rom.factors.get f) (s.rom.factors.get f).length).take f.redundancy) ∧
      (∀ j, j < f.redundancy →
        packedBit ((build s).gen.get f) j =
          polyCoeff (productOfFirst (s.rom.factors.get f) (s.rom.factors.get f).length) j) ∧
      (∀ j, f.redundancy ≤ j → packedBit ((build s).gen.get f) j = false) ∧
      ∀ (m : Nat) (u : State), Turn.reset ∉ s.sched → Host.Core.run core m (build s) = .next u →
        u.gen.get f = (build s).gen.get f

/-- 42_generator_table.md R133: the GEN words of the reference factors. -/
def Obligations.ReferenceGeneratorWords : Prop :=
  ∀ maxLen : Nat, 193 ≤ maxLen →
    buildFamily maxLen .n12 normalFactors =
      some [0xE7AA4066, 0xEFA1E2C0, 0x9110AC3B, 0x1B34F30A, 0x388A3A21, 0xC1706472] ∧
    buildFamily maxLen .n10 (normalFactors.take 10) =
      some [0x89A6DD1D, 0x80C48BF7, 0xC0EA1E56, 0xF8CC543F, 0xB730A806] ∧
    buildFamily maxLen .n8 (normalFactors.take 8) = some [0xD4669F20, 0xAEB63F98, 0xBDE9E48E, 0xFAA4E038] ∧
    buildFamily maxLen .s12 shortFactors =
      some [0xA5A0988B, 0xEBE7F14A, 0x9609C5C4, 0xB3464D96, 0x1957DB46, 0x02000000]

/-- 70_reset_and_hazards.md R246: from reset with the reference tables and medium factors that pass BUILD's checks,
the first step ends in CleanStart. That the first step is BUILD is the model's choice (log entries 2 and 3: no turn is
given at reset, and the engine then moves first); R241 lets host accesses come before BUILD's end. -/
def Obligations.CleanStartFollowsReset : Prop :=
  ∀ (m12 : List Poly) (p : Params), p.wf referenceConfig = true →
    (∃ words, buildFamily p.maxLen .m12 m12 = some words) →
    ∃ t, step { State.reset with
        rom := { factors := factorsWithMedium m12, config := referenceConfig }, params := p } = .next t ∧
      CleanStart t

/-! ## Polynomial algebra (41_polynomial_algebra.md) -/

/-- 41_polynomial_algebra.md R100, R101: MUL is the product in GF(2)[x], with no trailing zero. -/
def Obligations.MulIsPolynomialProduct : Prop :=
  ∀ a b : Poly, polyOf (polyMul a b) = polyOf a * polyOf b ∧ (polyMul a b).getLast? ≠ some false

/-- 41_polynomial_algebra.md R102, (a) to (f). -/
def Obligations.MulCornerCases : Prop :=
  ∀ a b : Poly,
    polyMul [] b = [] ∧ polyMul a [] = [] ∧
    ((∀ x ∈ convolve a b, x = false) → polyMul a b = []) ∧
    ((∀ x ∈ a, x = false) ∨ (∀ x ∈ b, x = false) → polyMul a b = []) ∧
    polyMul a b = polyMul (trim a) (trim b) ∧
    (polyMul a b = [] ∨ (polyMul a b).getLast? = some true) ∧
    (trim a ≠ [] → trim b ≠ [] → (polyMul a b).length = (trim a).length + (trim b).length - 1) ∧
    polyMul a [true] = trim a ∧
    polyMul a b = polyMul b a

/-- 41_polynomial_algebra.md R104, R105 (e): PACK gives ceil(L/32) words with coefficient j at packed position j and 0
at every further position. -/
def Obligations.PackPlacesCoefficients : Prop :=
  ∀ v : Poly, (pack v).length = (v.length + 31) / 32 ∧ ∀ j, packedBit (pack v) j = polyCoeff v j

/-- 41_polynomial_algebra.md R107: packed XOR is position by position, and adds a packed generator into the packed
view of the register. -/
def Obligations.PackedXorIsPositionwise : Prop :=
  (∀ a b : List Word, a.length = b.length →
    (packedXor a b).length = a.length ∧
    (∀ w, w < a.length → (packedXor a b).getD w 0 = a.getD w 0 ^^^ b.getD w 0) ∧
    ∀ j, packedBit (packedXor a b) j = (packedBit a j ^^ packedBit b j)) ∧
  ∀ (r : Nat) (x g : BitVec r), packedXor (packedView x) (packedView g) = packedView (x ^^^ g)

/-- 43_lfsr_encoder.md R152: the cell form of SHIFT, and that the word form agrees with it on the packed view. -/
def Obligations.ChainShiftAgreesWithCells : Prop :=
  ∀ (r : Nat) (sr : BitVec r),
    (∀ i, i < r → (shiftCells sr).getLsbD i = (decide (0 < i) && sr.getLsbD (i - 1))) ∧
      chainShift r (packedView sr) = packedView (shiftCells sr)

/-! ## The encoder (43_lfsr_encoder.md) -/

/-- 43_lfsr_encoder.md R153, R154 (b): FEED cell by cell, with its feedback bit. -/
def Obligations.FeedCellByCell : Prop :=
  ∀ (r : Nat) (g sr : BitVec r) (u : Bool),
    (0 < r → (feed g sr u).getLsbD 0 = ((u ^^ sr.getLsbD (r - 1)) && g.getLsbD 0)) ∧
    (∀ i, 1 ≤ i → i < r →
      (feed g sr u).getLsbD i = (sr.getLsbD (i - 1) ^^ ((u ^^ sr.getLsbD (r - 1)) && g.getLsbD i))) ∧
    feed g 0 false = 0

/-- 43_lfsr_encoder.md R155: r PARITY steps emit the cells from r-1 down to 0 and leave a zero register. -/
def Obligations.ParityEmitsHighestCellFirst : Prop :=
  ∀ (r : Nat) (sr : BitVec r),
    parityRun r sr = ((List.range r).map fun j => sr.getLsbD (r - 1 - j), 0)

/-- 43_lfsr_encoder.md R157: after the information bits the register holds (u(x) x^r) mod g(x), and the parity comes
out highest degree first. -/
def Obligations.RegisterHoldsRemainder : Prop :=
  ∀ (r : Nat) (g : BitVec r) (us : List Bool),
    cellsPoly (feedAll g 0 us) = (streamPoly us * Polynomial.X ^ r) %ₘ generatorPoly g ∧
      ∀ j, j < r →
        gf2 ((parityOf g us).getD j false) =
          ((streamPoly us * Polynomial.X ^ r) %ₘ generatorPoly g).coeff (r - 1 - j)

/-- 43_lfsr_encoder.md R158: every codeword is u(x) x^r + R(x), divisible by the generator. -/
def Obligations.CodewordsAreDivisible : Prop :=
  ∀ (r : Nat) (g : BitVec r) (us : List Bool),
    streamPoly (encodeFrame g us) =
        streamPoly us * Polynomial.X ^ r + (streamPoly us * Polynomial.X ^ r) %ₘ generatorPoly g ∧
      generatorPoly g ∣ streamPoly (encodeFrame g us)

/-- 43_lfsr_encoder.md R161: parity is linear, and zero for the zero message. -/
def Obligations.ParityIsLinear : Prop :=
  ∀ (r : Nat) (g : BitVec r),
    (∀ us vs : List Bool, us.length = vs.length →
      parityOf g (List.zipWith xor us vs) = List.zipWith xor (parityOf g us) (parityOf g vs)) ∧
    ∀ m, parityOf g (List.replicate m false) = List.replicate r false

/-- 43_lfsr_encoder.md R162: the parities of the messages with a single 1, at the last and at the first position. -/
def Obligations.UnitVectorParities : Prop :=
  ∀ (r : Nat) (g : BitVec r) (m : Nat),
    parityOf g (List.replicate m false ++ [true]) = (List.range r).map (fun j => g.getLsbD (r - 1 - j)) ∧
      streamPoly (parityOf g (true :: List.replicate m false)) =
        (Polynomial.X ^ (m + r) : Polynomial (ZMod 2)) %ₘ generatorPoly g

/-! ## WORK (44_streaming.md) -/

/-- 44_streaming.md R181, R185, R186, R187: the reports and flags of a WORK that is admitted. -/
def Obligations.WorkReportsAndFlags : Prop :=
  ∀ (s : State) (eof : Bool) (c : Code) (o : WorkOps), s.mode = .active → s.code = some c → s.workOps eof = o →
    o.inBase.toNat + o.inAvail.toNat ≤ s.params.ibufBytes →
    o.outBase.toNat + o.outSpace.toNat ≤ s.params.obufBytes →
    ∃ t, exec (.work eof) s = .next t ∧ t.pend = none ∧
      t.frames.toNat = min (o.inAvail.toNat / c.k.toNat) (o.outSpace.toNat / c.n.toNat) ∧
      t.consumed.toNat = c.k.toNat * t.frames.toNat ∧
      t.produced.toNat = c.n.toNat * t.frames.toNat ∧
      (t.drained = true ↔ eof = true ∧ o.inAvail.toNat - t.consumed.toNat = 0) ∧
      (t.stall = true ↔ eof = true ∧ 0 < o.inAvail.toNat - t.consumed.toNat ∧
        o.inAvail.toNat - t.consumed.toNat < c.k.toNat)

/-- 44_streaming.md R182, R184: what an admitted WORK leaves unchanged. It stores to the output window's first
PRODUCED bytes and nowhere else; of ERR it can only set SYM. -/
def Obligations.WorkLeavesTheRest : Prop :=
  ∀ (s : State) (eof : Bool) (c : Code) (o : WorkOps), s.mode = .active → s.code = some c → s.workOps eof = o →
    c.k.toNat ≤ c.n.toNat → inRange s.params o = true →
    ∃ t, exec (.work eof) s = .next t ∧
      t.mode = s.mode ∧ t.unsup = s.unsup ∧ t.cfgClass = s.cfgClass ∧ t.cfgRate = s.cfgRate ∧
      t.inBase = s.inBase ∧ t.inAvail = s.inAvail ∧ t.outBase = s.outBase ∧ t.outSpace = s.outSpace ∧
      t.code = s.code ∧ t.gen = s.gen ∧ t.rom = s.rom ∧ t.params = s.params ∧ t.ibuf = s.ibuf ∧
      t.haz = s.haz ∧ t.unpolled = s.unpolled ∧ t.unadmitted = s.unadmitted ∧ t.hostOps = s.hostOps ∧
      t.sched = s.sched ∧ t.results = s.results ∧
      (t.err = s.err ∨ t.err = s.err ||| 0b0010000#7) ∧
      ∀ a, a < o.outBase.toNat ∨ outputEnd c o ≤ a → memRead t.obuf a = memRead s.obuf a

/-- 44_streaming.md R183, R188; 43_lfsr_encoder.md R159: the first k bytes of each frame are its k input symbols,
unchanged. -/
def Obligations.WorkCopiesSymbols : Prop :=
  ∀ (s : State) (eof : Bool) (c : Code) (o : WorkOps), s.mode = .active → s.code = some c → s.workOps eof = o →
    c.k.toNat ≤ c.n.toNat → inRange s.params o = true →
    ∃ t, exec (.work eof) s = .next t ∧
      ∀ f, f < frameCount c o → ∀ j, j < c.k.toNat →
        memRead t.obuf (o.outBase.toNat + f * c.n.toNat + j) = some (workSymbol s o (f * c.k.toNat + j))

/-- 44_streaming.md R183, R188, R189; 43_lfsr_encoder.md R156: the last r bytes of each frame are the parity bits of
its information bits, as 0x00 or 0x01. -/
def Obligations.WorkWritesParity : Prop :=
  ∀ (s : State) (eof : Bool) (c : Code) (o : WorkOps), s.mode = .active → s.code = some c → s.workOps eof = o →
    c.k.toNat ≤ c.n.toNat → inRange s.params o = true →
    ∃ t, exec (.work eof) s = .next t ∧
      ∀ f, f < frameCount c o → ∀ j, j < c.n.toNat - c.k.toNat →
        memRead t.obuf (o.outBase.toNat + f * c.n.toNat + c.k.toNat + j) =
          some (if (parityOf (frameGen s c) (workBits s c o f)).getD j false then 0x01#8 else 0x00#8)

/-- 43_lfsr_encoder.md R158 on the whole machine: in a state that meets the invariant, every frame a WORK writes is a
multiple of the product of its family's factors. -/
def Obligations.WorkOutputsCodewords : Prop :=
  ∀ (s : State) (eof : Bool) (c : Code) (o : WorkOps), Inv s → s.code = some c → s.workOps eof = o →
    inRange s.params o = true →
    ∃ t, exec (.work eof) s = .next t ∧
      ∀ f, f < frameCount c o →
        polyOf (productOfFirst (s.rom.factors.get c.fam) (s.rom.factors.get c.fam).length) ∣
          streamPoly ((outputFrame t c o f).map symbolBit)

/-- 44_streaming.md R188; 60_exceptions.md R215: SYM is set exactly when it was or when a consumed symbol is no 0x00
or 0x01. -/
def Obligations.SymMarksBadSymbols : Prop :=
  ∀ (s : State) (eof : Bool) (c : Code) (o : WorkOps), s.mode = .active → s.code = some c → s.workOps eof = o →
    inRange s.params o = true →
    ∃ t, exec (.work eof) s = .next t ∧
      (t.hasErr .sym = true ↔
        s.hasErr .sym = true ∨ ∃ j, j < c.k.toNat * frameCount c o ∧ 1 < (workSymbol s o j).toNat)

/-- 44_streaming.md R180, R191 (a): with no whole frame available, only the reports and flags change. -/
def Obligations.WorkWithoutWholeFrame : Prop :=
  ∀ (s : State) (eof : Bool) (c : Code) (o : WorkOps), s.mode = .active → s.code = some c → s.workOps eof = o →
    inRange s.params o = true → o.inAvail.toNat < c.k.toNat ∨ o.outSpace.toNat < c.n.toNat →
    exec (.work eof) s =
      .next { s with
        frames := 0, consumed := 0, produced := 0, pend := none,
        drained := eof && decide (o.inAvail.toNat = 0),
        stall := eof && decide (0 < o.inAvail.toNat) && decide (o.inAvail.toNat < c.k.toNat) }

/-- 44_streaming.md R191 (g); 43_lfsr_encoder.md R160: a WORK repeated with the operands of the first, on stored
symbols, leaves OBUF as the first one did. Both take the operands latched in PEND (10_state.md R45). -/
def Obligations.RepeatedWorkRepeatsOutput : Prop :=
  ∀ (s t u : State) (eof : Bool) (c : Code) (o : WorkOps), s.mode = .active → s.code = some c → s.workOps eof = o →
    c.k.toNat ≤ c.n.toNat → inRange s.params o = true → InputStored s c o →
    exec (.work eof) s = .next t → exec (.work eof) { t with pend := some (.work o) } = .next u →
    ∀ a, memRead u.obuf a = memRead t.obuf a

/-- 44_streaming.md R184: the frame operation of the model equals the pseudocode's loop over symbols. -/
def Obligations.WorkFrameIsTheSymbolLoop : Prop :=
  ∀ (s : State) (c : Code) (o : WorkOps) (f : Nat), memWf s.obuf →
    workFrame c o f s = workFrameBySymbol c o f s

/-- 44_streaming.md R182: symbols beyond k x frames are not read: IBUF elsewhere has no influence on a WORK. -/
def Obligations.WorkReadsOnlyConsumedInput : Prop :=
  ∀ (s t : State) (eof : Bool) (c : Code) (m : List Host.Cell), s.code = some c →
    (∀ j, j < c.k.toNat * frameCount c (s.workOps eof) →
      memRead m ((s.workOps eof).inBase.toNat + j) = memRead s.ibuf ((s.workOps eof).inBase.toNat + j)) →
    exec (.work eof) s = .next t → exec (.work eof) { s with ibuf := m } = .next { t with ibuf := m }

/-- 44_streaming.md R184, R192: no command changes IBUF, the operand registers, GEN, the ROM, the parameters or
anything of the host's. -/
def Obligations.CommandsLeaveHostState : Prop :=
  ∀ (i : Instr) (s : State), ∃ t, exec i s = .next t ∧ t.pend = none ∧
    t.ibuf = s.ibuf ∧ t.inBase = s.inBase ∧ t.inAvail = s.inAvail ∧ t.outBase = s.outBase ∧
    t.outSpace = s.outSpace ∧ t.gen = s.gen ∧ t.rom = s.rom ∧ t.params = s.params ∧ t.haz = s.haz ∧
    t.unpolled = s.unpolled ∧ t.unadmitted = s.unadmitted ∧ t.hostOps = s.hostOps ∧ t.sched = s.sched ∧
    t.results = s.results

/-! ## Registers (10_state.md) -/

/-- 10_state.md R24: every register's reset value. -/
def Obligations.ResetRegisterValues : Prop :=
  regValue State.reset .id = 0xBC450001#32 ∧ ∀ r, r ≠ .id → regValue State.reset r = 0

/-- 10_state.md R21, R28: the fields of STATUS. -/
def Obligations.StatusFields : Prop :=
  ∀ s : State,
    (statusWord s).extractLsb' 0 3 =
      (match s.mode with
        | .init => 0#3
        | .idle => 1#3
        | .active => 2#3
        | .fault => 3#3) ∧
    ((statusWord s).getLsbD 3 = true ↔ s.pend ≠ none) ∧
    (statusWord s).getLsbD 4 = s.unsup ∧ (statusWord s).getLsbD 5 = s.drained ∧
    (statusWord s).getLsbD 6 = s.stall ∧
    ((statusWord s).getLsbD 7 = true ↔ ∃ e, s.hasErr e = true) ∧
    ∀ i, 8 ≤ i → (statusWord s).getLsbD i = false

/-- 10_state.md R31, R32, R33: the CODE registers show the configuration in ACTIVE and 0 in every other mode. -/
def Obligations.CodeRegistersShowConfiguration : Prop :=
  ∀ s : State,
    (s.mode ≠ .active → regValue s .codeK = 0 ∧ regValue s .codeN = 0 ∧ regValue s .codeInfo = 0) ∧
    ∀ c, s.mode = .active → s.code = some c →
      regValue s .codeK = c.k.setWidth 32 ∧ regValue s .codeN = c.n.setWidth 32 ∧
      ((regValue s .codeInfo).extractLsb' 0 8).toNat = c.fam.redundancy ∧
      (regValue s .codeInfo).extractLsb' 8 3 = c.fam.code ∧
      (regValue s .codeInfo).getLsbD 11 = false ∧
      ((regValue s .codeInfo).extractLsb' 12 3).toNat = (c.fam.redundancy + 31) / 32 ∧
      (regValue s .codeInfo).getLsbD 15 = true ∧
      (regValue s .codeInfo).extractLsb' 16 16 = 0

/-- 10_state.md R25, R34 to R37: an operand register stores all 32 bits of a write and reads them back, and the write
changes nothing else. -/
def Obligations.OperandRegistersReadBack : Prop :=
  ∀ (s : State) (v : Word),
    hostWriteReg 0x020 .word v s = { s with inBase := v } ∧ hostWriteReg 0x024 .word v s = { s with inAvail := v } ∧
    hostWriteReg 0x028 .word v s = { s with outBase := v } ∧ hostWriteReg 0x02C .word v s = { s with outSpace := v } ∧
    ∀ off ∈ ([0x020, 0x024, 0x028, 0x02C] : List (BitVec 12)), offsetValue (hostWriteReg off .word v s) off = v

/-- 10_state.md R25, R29; 60_exceptions.md R223: a write to ERR clears the bits written as 1, TABLE apart, and changes
nothing else; a read of ERR returns the seven errors at [6:0] and 0 at [31:7]. -/
def Obligations.ErrWriteClearsWrittenOnes : Prop :=
  ∀ (s : State) (v : Word),
    hostWriteReg 0x00C .word v s = { s with err := (hostWriteReg 0x00C .word v s).err } ∧
    (∀ e : ErrBit, (hostWriteReg 0x00C .word v s).hasErr e =
      (s.hasErr e && (decide (e = .table) || !v.getLsbD e.code))) ∧
    hostReadReg 0x00C .word s = { s with results := offsetValue s 0x00C :: s.results } ∧
    (∀ e : ErrBit, (offsetValue s 0x00C).getLsbD e.code = s.hasErr e) ∧
    ∀ i, 7 ≤ i → (offsetValue s 0x00C).getLsbD i = false

/-- 10_state.md R25, R41: read-only registers and reserved offsets ignore writes; reserved offsets read 0. -/
def Obligations.ReadOnlyAndReservedIgnoreWrites : Prop :=
  ∀ (s : State) (off : BitVec 12) (v : Word), off.toNat % 4 = 0 →
    (off ∉ ([0x004, 0x00C, 0x020, 0x024, 0x028, 0x02C] : List (BitVec 12)) → hostWriteReg off .word v s = s) ∧
    (0x03C ≤ off.toNat → offsetValue s off = 0)

/-- 20_memory.md R62, R63; 60_exceptions.md R217: the model refuses an access that is not admitted, and its step never
sets BUS; the hardware writes nothing, reads 0, and on REG raises BUS. The mark the hardware's account leaves in the
state is the model's (log entry 11). -/
def Obligations.UnadmittedAccessesHaveNoEffect : Prop :=
  (∀ (s : State) (w : Width) (v : Word),
    (∀ off : BitVec 12, w = .byte ∨ off.toNat % 4 ≠ 0 →
      hostWrite (.reg off) w v s = { s with err := s.err ||| 0b1000000#7, unadmitted := true } ∧
      hostRead (.reg off) w s =
        { s with err := s.err ||| 0b1000000#7, unadmitted := true, results := 0 :: s.results }) ∧
    ∀ a : BitVec 32,
      ((w = .word ∧ a.toNat % 4 ≠ 0) ∨ s.params.ibufBytes < a.toNat + w.bytes →
        hostWrite (.ibuf a) w v s = { s with unadmitted := true } ∧
        hostRead (.ibuf a) w s = { s with unadmitted := true, results := 0 :: s.results }) ∧
      ((w = .word ∧ a.toNat % 4 ≠ 0) ∨ s.params.obufBytes < a.toNat + w.bytes →
        hostWrite (.obuf a) w v s = { s with unadmitted := true } ∧
        hostRead (.obuf a) w s = { s with unadmitted := true, results := 0 :: s.results })) ∧
  (∀ (s : State) (tg : Target) (p : Place) (w : Width) (v : Word) (ops : List HostOp),
    s.turn = .host → locate s.params tg = some p →
    (s.hostOps = .read tg w :: ops →
      (Unadmitted s.params w p → step s = .refused (.unadmittedAccess p w)) ∧
      (¬Unadmitted s.params w p →
        step s = .next (hostRead p w { s with hostOps := ops, sched := s.sched.tail })) ∧
      hardwareStep s = .next (hostRead p w { s with hostOps := ops, sched := s.sched.tail })) ∧
    (s.hostOps = .write tg w v :: ops →
      (Unadmitted s.params w p → step s = .refused (.unadmittedAccess p w)) ∧
      (¬Unadmitted s.params w p →
        step s = .next (hostWrite p w v { s with hostOps := ops, sched := s.sched.tail })) ∧
      hardwareStep s = .next (hostWrite p w v { s with hostOps := ops, sched := s.sched.tail }))) ∧
  ∀ s t : State, step s = .next t →
    (t.hasErr .bus = true → s.hasErr .bus = true) ∧ (t.unadmitted = true → s.unadmitted = true)

/-! ## Buffers and the hazard (20_memory.md; 70_reset_and_hazards.md) -/

/-- 20_memory.md R63, R64; 70_reset_and_hazards.md R253: an admitted host write that is clear of every open hazard
window stores its bytes little-endian, leaves every other byte and field, and reads back. An admitted read of IBUF,
whatever windows are open, and one of OBUF clear of every open window, return the stored bytes, little-endian. -/
def Obligations.BufferAccessIsLittleEndian : Prop :=
  ∀ (s : State) (w : Width) (a : BitVec 32) (v : Word),
    (bufAdmitted s.params.ibufBytes a w = true → ClearOfInputs s a.toNat w.bytes →
      ∃ t, hostWrite (.ibuf a) w v s = t ∧ t = { s with ibuf := t.ibuf } ∧
        (∀ i, i < w.bytes → memRead t.ibuf (a.toNat + i) = some (v.extractLsb' (8 * i) 8)) ∧
        (∀ x, x < a.toNat ∨ a.toNat + w.bytes ≤ x → memRead t.ibuf x = memRead s.ibuf x) ∧
        hostRead (.ibuf a) w t =
          { t with
            results := (if w = .word then v else v &&& 0xFF#32) :: t.results
            draws := t.draws + w.bytes }) ∧
    (bufAdmitted s.params.obufBytes a w = true → ClearOfOutputs s a.toNat w.bytes →
      ∃ t, hostWrite (.obuf a) w v s = t ∧ t = { s with obuf := t.obuf } ∧
        (∀ i, i < w.bytes → memRead t.obuf (a.toNat + i) = some (v.extractLsb' (8 * i) 8)) ∧
        (∀ x, x < a.toNat ∨ a.toNat + w.bytes ≤ x → memRead t.obuf x = memRead s.obuf x) ∧
        hostRead (.obuf a) w t =
          { t with
            results := (if w = .word then v else v &&& 0xFF#32) :: t.results
            draws := t.draws + w.bytes }) ∧
    (bufAdmitted s.params.ibufBytes a w = true →
      (∀ i, i < w.bytes → memRead s.ibuf (a.toNat + i) = some (v.extractLsb' (8 * i) 8)) →
      hostRead (.ibuf a) w s =
        { s with
          results := (if w = .word then v else v &&& 0xFF#32) :: s.results
          draws := s.draws + w.bytes }) ∧
    (bufAdmitted s.params.obufBytes a w = true → ClearOfOutputs s a.toNat w.bytes →
      (∀ i, i < w.bytes → memRead s.obuf (a.toNat + i) = some (v.extractLsb' (8 * i) 8)) →
      hostRead (.obuf a) w s =
        { s with
          results := (if w = .word then v else v &&& 0xFF#32) :: s.results
          draws := s.draws + w.bytes })

/-- 70_reset_and_hazards.md R252, R253: in the hazard window of a WORK, a write of its input window and any access of
its output window set HAZ; a read of IBUF, and accesses clear of every open window, do not. R252 says that a breach has
no other defined effect; that it then stores nothing, and changes only HAZ, the results and the draws, is the model's
reading (log entry 10, DEDUCED). -/
def Obligations.BreachSetsHaz : Prop :=
  ∀ (s : State) (w : Width) (a : BitVec 32) (v : Word),
    (∀ o x, Pending.work o ∈ s.unpolled → o.inBase.toNat ≤ x → x < o.inBase.toNat + o.inAvail.toNat →
      a.toNat ≤ x → x < a.toNat + w.bytes → bufAdmitted s.params.ibufBytes a w = true →
      hostWrite (.ibuf a) w v s = { s with haz := true }) ∧
    (∀ o x, Pending.work o ∈ s.unpolled → o.outBase.toNat ≤ x → x < o.outBase.toNat + o.outSpace.toNat →
      a.toNat ≤ x → x < a.toNat + w.bytes → bufAdmitted s.params.obufBytes a w = true →
      hostWrite (.obuf a) w v s = { s with haz := true } ∧
        ∃ val, hostRead (.obuf a) w s =
          { s with haz := true, results := val :: s.results, draws := s.draws + w.bytes }) ∧
    (hostRead (.ibuf a) w s).haz = s.haz ∧
    ((∀ o, Pending.work o ∈ s.unpolled →
        a.toNat + w.bytes ≤ o.inBase.toNat ∨ o.inBase.toNat + o.inAvail.toNat ≤ a.toNat) →
      (hostWrite (.ibuf a) w v s).haz = s.haz) ∧
    ((∀ o, Pending.work o ∈ s.unpolled →
        a.toNat + w.bytes ≤ o.outBase.toNat ∨ o.outBase.toNat + o.outSpace.toNat ≤ a.toNat) →
      (hostWrite (.obuf a) w v s).haz = s.haz ∧ (hostRead (.obuf a) w s).haz = s.haz)

/-- 10_state.md R48: HAZ stays set until reset, and only a host access with a hazard window open sets it.
70_reset_and_hazards.md R251, 30_encoding.md R96: a step opens a hazard window only for a command it accepts, and closes
the windows only where the host reads STATUS with BUSY = 0. 10_state.md R25, 20_memory.md R66: an admitted read of a
register returns its value and changes nothing else; POLL and WAITINIT are such reads of STATUS, repeated until BUSY
reads 0 or MODE reads other than INIT. -/
def Obligations.HazStaysUntilReset : Prop :=
  (∀ s t : State, step s = .next t → s.turn ≠ .reset →
    (s.haz = true → t.haz = true) ∧ (s.haz = false → t.haz = true → s.turn = .host ∧ s.unpolled ≠ []) ∧
    (t.unpolled = s.unpolled ∨
      (∃ p, s.turn = .host ∧ s.pend = none ∧ t.pend = some p ∧ t.unpolled = p :: s.unpolled) ∨
      (s.turn = .host ∧ s.pend = none ∧ t.unpolled = [] ∧ t.results = statusWord s :: s.results))) ∧
  (∀ (s : State) (off : BitVec 12), off.toNat % 4 = 0 →
    hostRead (.reg off) .word s =
      { s with
        results := offsetValue s off :: s.results
        unpolled := if off = 0x008 ∧ s.pend = none then [] else s.unpolled }) ∧
  ∀ (s : State) (ops : List HostOp), s.turn = .host →
    (s.hostOps = .poll :: ops →
      step s =
        .next { s with
          sched := s.sched.tail
          results := statusWord s :: s.results
          hostOps := if s.pend = none then ops else s.hostOps
          unpolled := if s.pend = none then [] else s.unpolled }) ∧
    (s.hostOps = .waitInit :: ops →
      step s =
        .next { s with
          sched := s.sched.tail
          results := statusWord s :: s.results
          hostOps := if s.mode = .init then s.hostOps else ops
          unpolled := if s.pend = none then [] else s.unpolled })

/-- 20_memory.md R61: with the three windows pairwise apart, in any order, a platform address in a window is the place
at its offset. -/
def Obligations.PlatformWindowsReachTheirSpaces : Prop :=
  ∀ p : Params,
    p.regBase + 4096 ≤ p.ibufBase ∨ p.ibufBase + p.ibufBytes ≤ p.regBase →
    p.regBase + 4096 ≤ p.obufBase ∨ p.obufBase + p.obufBytes ≤ p.regBase →
    p.ibufBase + p.ibufBytes ≤ p.obufBase ∨ p.obufBase + p.obufBytes ≤ p.ibufBase →
    p.ibufBytes ≤ 2 ^ 32 → p.obufBytes ≤ 2 ^ 32 →
    (∀ off, off < 4096 → locate p (.bus (p.regBase + off)) = some (.reg (BitVec.ofNat 12 off))) ∧
    (∀ a, a < p.ibufBytes → locate p (.bus (p.ibufBase + a)) = some (.ibuf (BitVec.ofNat 32 a))) ∧
    (∀ a, a < p.obufBytes → locate p (.bus (p.obufBase + a)) = some (.obuf (BitVec.ofNat 32 a)))

/-! ## Reset, invariant, liveness -/

/-- 70_reset_and_hazards.md R240; 10_state.md R51: what the reset input leaves, whenever it comes. -/
def Obligations.ResetInputRestoresResetState : Prop :=
  ∀ s : State, s.turn = .reset →
    ∃ t, step s = .next t ∧ t.mode = .init ∧ t.pend = none ∧ t.code = none ∧ t.sr = 0 ∧ t.haz = false ∧
      t.ibuf = [] ∧ t.obuf = [] ∧ t.rom = s.rom ∧ t.params = s.params ∧
      ∀ r, regValue t r = regValue State.reset r

/-- 10_state.md R49 and what the rules imply: every step keeps the invariant. -/
def Obligations.StepKeepsInvariant : Prop :=
  ∀ s t : State, Inv s → step s = .next t → Inv t

/-- The invariant holds right after reset. -/
def Obligations.ResetMeetsInvariant : Prop := Inv State.reset

/-- 70_reset_and_hazards.md R255, 30_encoding.md R87: with no reset among the given turns, the engine performs the
pending command, at the latest in the step after the given turns are used up. With a reset among them, the command may
be abandoned instead (R240); PEND is none by the same step. The bound is the model's choice, by the turn it gives the
engine when the given turns are used up (log entry 2); R255 itself gives none. -/
def Obligations.EveryPendingCommandCompletes : Prop :=
  ∀ (s : State) (p : Pending), s.pend = some p → (∀ op ∈ s.hostOps, opAdmitted s.params op = true) →
    (Turn.reset ∉ s.sched →
      ∃ m u t, m ≤ s.sched.length ∧ Host.Core.run core m s = .next u ∧ u.pend = some p ∧ u.turn = .engine ∧
        exec p.instr { u with sched := u.sched.tail } = .next t ∧ Host.Core.run core (m + 1) s = .next t ∧
        t.pend = none) ∧
    ∃ m t, m ≤ s.sched.length + 1 ∧ Host.Core.run core m s = .next t ∧ t.pend = none

/-- 10_state.md R42: no value but SR itself depends on SR. -/
def Obligations.ShiftRegisterIsNeverObserved : Prop :=
  ∀ (s t : State) (x : BitVec 192), step s = .next t → ∃ y, step { s with sr := x } = .next { t with sr := y }
end

