-- ==== Sys2Proof/Laws/Memory.lean ====
section
/-! SUPPORT. The laws of buffer memory: what a run of written bytes reads as, that it keeps the canonical form and
the buffer's size, and the lengths and entries of the byte lists. -/

namespace Sys2Proof.Machine

/-! ## memRead -/

theorem memRead_append (m1 m2 : List Host.Cell) (a : Nat) :
    memRead (m1 ++ m2) a = (memRead m1 a).or (memRead m2 a) := by
  induction m1 with
  | nil => simp [memRead]
  | cons c rest ih =>
    obtain ⟨k, b⟩ := c
    by_cases h : k = a <;> simp [memRead, h, ih]

/-- Cells of other addresses do not matter to a read. -/
theorem memRead_filter (mem : List Host.Cell) (p : Nat → Bool) (a : Nat) :
    memRead (mem.filter fun c => p c.1) a = if p a then memRead mem a else none := by
  induction mem with
  | nil => simp [memRead]
  | cons c rest ih =>
    obtain ⟨k, b⟩ := c
    by_cases hk : p k = true
    · by_cases h : k = a
      · subst h; simp [memRead, hk]
      · simp [memRead, hk, h, ih]
    · by_cases h : k = a
      · subst h; simp [hk, ih]
      · simp [memRead, hk, h, ih]

theorem memRead_mapIdx (bytes : List Byte) (base a : Nat) :
    memRead (bytes.mapIdx fun i b => (base + i, b)) a =
      if base ≤ a then bytes[a - base]? else none := by
  induction bytes generalizing base with
  | nil => simp [memRead]
  | cons b rest ih =>
    rw [List.mapIdx_cons]
    simp only [memRead]
    rw [show (fun i b => (base + (i + 1), b) : Nat → Byte → Host.Cell) = fun i b => (base + 1 + i, b) from by
      funext i b; simp [Nat.add_assoc, Nat.add_comm 1], ih]
    by_cases h : base + 0 = a
    · simp [show base = a by omega]
    · simp only [h, if_false]
      by_cases h1 : base + 1 ≤ a
      · have : a - base = (a - (base + 1)) + 1 := by omega
        simp [h1, show base ≤ a by omega, this]
      · simp [h1, show ¬ base ≤ a by omega]

/-- What a run of written bytes reads as: the run's byte inside it, what was there before outside it. -/
theorem memRead_writeRun (base : Nat) (bytes : List Byte) (mem : List Host.Cell) (a : Nat) :
    memRead (writeRun base bytes mem) a =
      if base ≤ a ∧ a < base + bytes.length then bytes[a - base]? else memRead mem a := by
  have h1 := memRead_filter mem (fun k => decide (k < base)) a
  have h2 := memRead_filter mem (fun k => decide (base + bytes.length ≤ k)) a
  simp only [writeRun, memRead_append, h1, h2, memRead_mapIdx]
  by_cases hlo : a < base
  · simp [hlo, show ¬ base ≤ a by omega, show ¬ base + bytes.length ≤ a by omega]
  · by_cases hhi : a < base + bytes.length
    · have : a - base < bytes.length := by omega
      simp [hlo, hhi, show base ≤ a by omega, this]
    · have : bytes.length ≤ a - base := by omega
      simp [hlo, hhi, show base ≤ a by omega, show base + bytes.length ≤ a by omega, this]

theorem memRead_writeRun_inside {base a : Nat} {bytes : List Byte} (mem : List Host.Cell)
    (hlo : base ≤ a) (hhi : a < base + bytes.length) :
    memRead (writeRun base bytes mem) a = bytes[a - base]? := by
  simp [memRead_writeRun, hlo, hhi]

theorem memRead_writeRun_outside {base a : Nat} {bytes : List Byte} (mem : List Host.Cell)
    (h : a < base ∨ base + bytes.length ≤ a) : memRead (writeRun base bytes mem) a = memRead mem a := by
  rw [memRead_writeRun, if_neg (by omega)]

/-! ## The canonical form -/

theorem map_fst_mapIdx (bytes : List Byte) (base : Nat) :
    (bytes.mapIdx fun i b => ((base + i, b) : Host.Cell)).map Prod.fst = List.range' base bytes.length := by
  apply List.ext_getElem
  · simp
  · intro i h1 h2; simp

/-- Writing a run keeps the canonical form. -/
theorem writeRun_wf {base : Nat} {bytes : List Byte} {mem : List Host.Cell} (h : memWf mem) :
    memWf (writeRun base bytes mem) := by
  have hf : ∀ p : Host.Cell → Bool, ((mem.filter p).map Prod.fst).Pairwise (· < ·) := fun p =>
    h.sublist (List.filter_sublist.map Prod.fst)
  simp only [memWf, writeRun, List.map_append, map_fst_mapIdx]
  rw [List.pairwise_append, List.pairwise_append]
  refine ⟨⟨hf _, List.pairwise_lt_range', ?_⟩, hf _, ?_⟩
  · intro x hx y hy
    simp only [List.mem_map, List.mem_filter, decide_eq_true_eq] at hx
    obtain ⟨c, ⟨-, hc⟩, rfl⟩ := hx
    simp only [List.mem_range'_1] at hy
    omega
  · intro x hx y hy
    simp only [List.mem_map, List.mem_filter, decide_eq_true_eq] at hy
    obtain ⟨c, ⟨-, hc⟩, rfl⟩ := hy
    simp only [List.mem_append, List.mem_map, List.mem_filter, decide_eq_true_eq, List.mem_range'_1] at hx
    rcases hx with ⟨d, ⟨-, hd⟩, rfl⟩ | hx <;> omega

/-- Writing a run inside the buffer's size keeps every address below it. -/
theorem writeRun_below {size base : Nat} {bytes : List Byte} {mem : List Host.Cell} (h : memBelow size mem)
    (hr : base + bytes.length ≤ size) : memBelow size (writeRun base bytes mem) := by
  intro c hc
  simp only [writeRun, List.mem_append, List.mem_filter] at hc
  rcases hc with (hc | hc) | hc
  · exact h c hc.1
  · have : c.1 ∈ (bytes.mapIdx fun i b => ((base + i, b) : Host.Cell)).map Prod.fst := List.mem_map_of_mem hc
    rw [map_fst_mapIdx, List.mem_range'_1] at this
    omega
  · exact h c hc.1

/-- The buffers right after reset are in canonical form. -/
theorem reset_memory_wf : memWf State.reset.ibuf ∧ memWf State.reset.obuf := by decide

/-! ## Byte lists -/

@[simp] theorem readBytes_length (mem : List Host.Cell) (a n d : Nat) : (readBytes mem a n d).length = n := by
  simp [readBytes]

@[simp] theorem readBytes_getElem (mem : List Host.Cell) (a n d i : Nat) (h : i < (readBytes mem a n d).length) :
    (readBytes mem a n d)[i] = (memRead mem (a + i)).getD (Config.freeByte (d + i)) := by
  simp [readBytes]

@[simp] theorem leBytes_length (n : Nat) (v : Word) : (leBytes n v).length = n := by simp [leBytes]

@[simp] theorem freeBytes_length (n d : Nat) : (freeBytes n d).length = n := by simp [freeBytes]

end Sys2Proof.Machine
end

