-- ==== Sys2Proof/Laws/State.lean ====
section
/-! SUPPORT. One lemma per field of State per named update, true by rfl, so that no proof unfolds a record update. -/

namespace Sys2Proof.Machine

/-! ## State.raise -/

@[simp] theorem State.raise_mode (s : State) (e : ErrBit) : (s.raise e).mode = s.mode := rfl
@[simp] theorem State.raise_unsup (s : State) (e : ErrBit) : (s.raise e).unsup = s.unsup := rfl
@[simp] theorem State.raise_drained (s : State) (e : ErrBit) : (s.raise e).drained = s.drained := rfl
@[simp] theorem State.raise_stall (s : State) (e : ErrBit) : (s.raise e).stall = s.stall := rfl
@[simp] theorem State.raise_err (s : State) (e : ErrBit) : (s.raise e).err = s.err ||| errMask e := rfl
@[simp] theorem State.raise_cfgClass (s : State) (e : ErrBit) : (s.raise e).cfgClass = s.cfgClass := rfl
@[simp] theorem State.raise_cfgRate (s : State) (e : ErrBit) : (s.raise e).cfgRate = s.cfgRate := rfl
@[simp] theorem State.raise_inBase (s : State) (e : ErrBit) : (s.raise e).inBase = s.inBase := rfl
@[simp] theorem State.raise_inAvail (s : State) (e : ErrBit) : (s.raise e).inAvail = s.inAvail := rfl
@[simp] theorem State.raise_outBase (s : State) (e : ErrBit) : (s.raise e).outBase = s.outBase := rfl
@[simp] theorem State.raise_outSpace (s : State) (e : ErrBit) : (s.raise e).outSpace = s.outSpace := rfl
@[simp] theorem State.raise_consumed (s : State) (e : ErrBit) : (s.raise e).consumed = s.consumed := rfl
@[simp] theorem State.raise_produced (s : State) (e : ErrBit) : (s.raise e).produced = s.produced := rfl
@[simp] theorem State.raise_frames (s : State) (e : ErrBit) : (s.raise e).frames = s.frames := rfl
@[simp] theorem State.raise_pend (s : State) (e : ErrBit) : (s.raise e).pend = s.pend := rfl
@[simp] theorem State.raise_code (s : State) (e : ErrBit) : (s.raise e).code = s.code := rfl
@[simp] theorem State.raise_sr (s : State) (e : ErrBit) : (s.raise e).sr = s.sr := rfl
@[simp] theorem State.raise_gen (s : State) (e : ErrBit) : (s.raise e).gen = s.gen := rfl
@[simp] theorem State.raise_rom (s : State) (e : ErrBit) : (s.raise e).rom = s.rom := rfl
@[simp] theorem State.raise_ibuf (s : State) (e : ErrBit) : (s.raise e).ibuf = s.ibuf := rfl
@[simp] theorem State.raise_obuf (s : State) (e : ErrBit) : (s.raise e).obuf = s.obuf := rfl
@[simp] theorem State.raise_haz (s : State) (e : ErrBit) : (s.raise e).haz = s.haz := rfl
@[simp] theorem State.raise_params (s : State) (e : ErrBit) : (s.raise e).params = s.params := rfl
@[simp] theorem State.raise_unpolled (s : State) (e : ErrBit) : (s.raise e).unpolled = s.unpolled := rfl
@[simp] theorem State.raise_unadmitted (s : State) (e : ErrBit) : (s.raise e).unadmitted = s.unadmitted := rfl
@[simp] theorem State.raise_hostOps (s : State) (e : ErrBit) : (s.raise e).hostOps = s.hostOps := rfl
@[simp] theorem State.raise_sched (s : State) (e : ErrBit) : (s.raise e).sched = s.sched := rfl
@[simp] theorem State.raise_results (s : State) (e : ErrBit) : (s.raise e).results = s.results := rfl
@[simp] theorem State.raise_draws (s : State) (e : ErrBit) : (s.raise e).draws = s.draws := rfl

/-! ## State.raiseIf -/

@[simp] theorem State.raiseIf_mode (s : State) (b : Bool) (e : ErrBit) : (s.raiseIf b e).mode = s.mode := rfl
@[simp] theorem State.raiseIf_unsup (s : State) (b : Bool) (e : ErrBit) : (s.raiseIf b e).unsup = s.unsup := rfl
@[simp] theorem State.raiseIf_drained (s : State) (b : Bool) (e : ErrBit) : (s.raiseIf b e).drained = s.drained := rfl
@[simp] theorem State.raiseIf_stall (s : State) (b : Bool) (e : ErrBit) : (s.raiseIf b e).stall = s.stall := rfl
@[simp] theorem State.raiseIf_err (s : State) (b : Bool) (e : ErrBit) : (s.raiseIf b e).err = if b then s.err ||| errMask e else s.err := rfl
@[simp] theorem State.raiseIf_cfgClass (s : State) (b : Bool) (e : ErrBit) : (s.raiseIf b e).cfgClass = s.cfgClass := rfl
@[simp] theorem State.raiseIf_cfgRate (s : State) (b : Bool) (e : ErrBit) : (s.raiseIf b e).cfgRate = s.cfgRate := rfl
@[simp] theorem State.raiseIf_inBase (s : State) (b : Bool) (e : ErrBit) : (s.raiseIf b e).inBase = s.inBase := rfl
@[simp] theorem State.raiseIf_inAvail (s : State) (b : Bool) (e : ErrBit) : (s.raiseIf b e).inAvail = s.inAvail := rfl
@[simp] theorem State.raiseIf_outBase (s : State) (b : Bool) (e : ErrBit) : (s.raiseIf b e).outBase = s.outBase := rfl
@[simp] theorem State.raiseIf_outSpace (s : State) (b : Bool) (e : ErrBit) : (s.raiseIf b e).outSpace = s.outSpace := rfl
@[simp] theorem State.raiseIf_consumed (s : State) (b : Bool) (e : ErrBit) : (s.raiseIf b e).consumed = s.consumed := rfl
@[simp] theorem State.raiseIf_produced (s : State) (b : Bool) (e : ErrBit) : (s.raiseIf b e).produced = s.produced := rfl
@[simp] theorem State.raiseIf_frames (s : State) (b : Bool) (e : ErrBit) : (s.raiseIf b e).frames = s.frames := rfl
@[simp] theorem State.raiseIf_pend (s : State) (b : Bool) (e : ErrBit) : (s.raiseIf b e).pend = s.pend := rfl
@[simp] theorem State.raiseIf_code (s : State) (b : Bool) (e : ErrBit) : (s.raiseIf b e).code = s.code := rfl
@[simp] theorem State.raiseIf_sr (s : State) (b : Bool) (e : ErrBit) : (s.raiseIf b e).sr = s.sr := rfl
@[simp] theorem State.raiseIf_gen (s : State) (b : Bool) (e : ErrBit) : (s.raiseIf b e).gen = s.gen := rfl
@[simp] theorem State.raiseIf_rom (s : State) (b : Bool) (e : ErrBit) : (s.raiseIf b e).rom = s.rom := rfl
@[simp] theorem State.raiseIf_ibuf (s : State) (b : Bool) (e : ErrBit) : (s.raiseIf b e).ibuf = s.ibuf := rfl
@[simp] theorem State.raiseIf_obuf (s : State) (b : Bool) (e : ErrBit) : (s.raiseIf b e).obuf = s.obuf := rfl
@[simp] theorem State.raiseIf_haz (s : State) (b : Bool) (e : ErrBit) : (s.raiseIf b e).haz = s.haz := rfl
@[simp] theorem State.raiseIf_params (s : State) (b : Bool) (e : ErrBit) : (s.raiseIf b e).params = s.params := rfl
@[simp] theorem State.raiseIf_unpolled (s : State) (b : Bool) (e : ErrBit) : (s.raiseIf b e).unpolled = s.unpolled := rfl
@[simp] theorem State.raiseIf_unadmitted (s : State) (b : Bool) (e : ErrBit) : (s.raiseIf b e).unadmitted = s.unadmitted := rfl
@[simp] theorem State.raiseIf_hostOps (s : State) (b : Bool) (e : ErrBit) : (s.raiseIf b e).hostOps = s.hostOps := rfl
@[simp] theorem State.raiseIf_sched (s : State) (b : Bool) (e : ErrBit) : (s.raiseIf b e).sched = s.sched := rfl
@[simp] theorem State.raiseIf_results (s : State) (b : Bool) (e : ErrBit) : (s.raiseIf b e).results = s.results := rfl
@[simp] theorem State.raiseIf_draws (s : State) (b : Bool) (e : ErrBit) : (s.raiseIf b e).draws = s.draws := rfl

/-! ## State.writeErr -/

@[simp] theorem State.writeErr_mode (s : State) (v : Word) : (s.writeErr v).mode = s.mode := rfl
@[simp] theorem State.writeErr_unsup (s : State) (v : Word) : (s.writeErr v).unsup = s.unsup := rfl
@[simp] theorem State.writeErr_drained (s : State) (v : Word) : (s.writeErr v).drained = s.drained := rfl
@[simp] theorem State.writeErr_stall (s : State) (v : Word) : (s.writeErr v).stall = s.stall := rfl
@[simp] theorem State.writeErr_err (s : State) (v : Word) : (s.writeErr v).err = s.err &&& ~~~(v.setWidth 7 &&& ~~~errMask .table) := rfl
@[simp] theorem State.writeErr_cfgClass (s : State) (v : Word) : (s.writeErr v).cfgClass = s.cfgClass := rfl
@[simp] theorem State.writeErr_cfgRate (s : State) (v : Word) : (s.writeErr v).cfgRate = s.cfgRate := rfl
@[simp] theorem State.writeErr_inBase (s : State) (v : Word) : (s.writeErr v).inBase = s.inBase := rfl
@[simp] theorem State.writeErr_inAvail (s : State) (v : Word) : (s.writeErr v).inAvail = s.inAvail := rfl
@[simp] theorem State.writeErr_outBase (s : State) (v : Word) : (s.writeErr v).outBase = s.outBase := rfl
@[simp] theorem State.writeErr_outSpace (s : State) (v : Word) : (s.writeErr v).outSpace = s.outSpace := rfl
@[simp] theorem State.writeErr_consumed (s : State) (v : Word) : (s.writeErr v).consumed = s.consumed := rfl
@[simp] theorem State.writeErr_produced (s : State) (v : Word) : (s.writeErr v).produced = s.produced := rfl
@[simp] theorem State.writeErr_frames (s : State) (v : Word) : (s.writeErr v).frames = s.frames := rfl
@[simp] theorem State.writeErr_pend (s : State) (v : Word) : (s.writeErr v).pend = s.pend := rfl
@[simp] theorem State.writeErr_code (s : State) (v : Word) : (s.writeErr v).code = s.code := rfl
@[simp] theorem State.writeErr_sr (s : State) (v : Word) : (s.writeErr v).sr = s.sr := rfl
@[simp] theorem State.writeErr_gen (s : State) (v : Word) : (s.writeErr v).gen = s.gen := rfl
@[simp] theorem State.writeErr_rom (s : State) (v : Word) : (s.writeErr v).rom = s.rom := rfl
@[simp] theorem State.writeErr_ibuf (s : State) (v : Word) : (s.writeErr v).ibuf = s.ibuf := rfl
@[simp] theorem State.writeErr_obuf (s : State) (v : Word) : (s.writeErr v).obuf = s.obuf := rfl
@[simp] theorem State.writeErr_haz (s : State) (v : Word) : (s.writeErr v).haz = s.haz := rfl
@[simp] theorem State.writeErr_params (s : State) (v : Word) : (s.writeErr v).params = s.params := rfl
@[simp] theorem State.writeErr_unpolled (s : State) (v : Word) : (s.writeErr v).unpolled = s.unpolled := rfl
@[simp] theorem State.writeErr_unadmitted (s : State) (v : Word) : (s.writeErr v).unadmitted = s.unadmitted := rfl
@[simp] theorem State.writeErr_hostOps (s : State) (v : Word) : (s.writeErr v).hostOps = s.hostOps := rfl
@[simp] theorem State.writeErr_sched (s : State) (v : Word) : (s.writeErr v).sched = s.sched := rfl
@[simp] theorem State.writeErr_results (s : State) (v : Word) : (s.writeErr v).results = s.results := rfl
@[simp] theorem State.writeErr_draws (s : State) (v : Word) : (s.writeErr v).draws = s.draws := rfl

/-! ## State.clearPend -/

@[simp] theorem State.clearPend_mode (s : State) : s.clearPend.mode = s.mode := rfl
@[simp] theorem State.clearPend_unsup (s : State) : s.clearPend.unsup = s.unsup := rfl
@[simp] theorem State.clearPend_drained (s : State) : s.clearPend.drained = s.drained := rfl
@[simp] theorem State.clearPend_stall (s : State) : s.clearPend.stall = s.stall := rfl
@[simp] theorem State.clearPend_err (s : State) : s.clearPend.err = s.err := rfl
@[simp] theorem State.clearPend_cfgClass (s : State) : s.clearPend.cfgClass = s.cfgClass := rfl
@[simp] theorem State.clearPend_cfgRate (s : State) : s.clearPend.cfgRate = s.cfgRate := rfl
@[simp] theorem State.clearPend_inBase (s : State) : s.clearPend.inBase = s.inBase := rfl
@[simp] theorem State.clearPend_inAvail (s : State) : s.clearPend.inAvail = s.inAvail := rfl
@[simp] theorem State.clearPend_outBase (s : State) : s.clearPend.outBase = s.outBase := rfl
@[simp] theorem State.clearPend_outSpace (s : State) : s.clearPend.outSpace = s.outSpace := rfl
@[simp] theorem State.clearPend_consumed (s : State) : s.clearPend.consumed = s.consumed := rfl
@[simp] theorem State.clearPend_produced (s : State) : s.clearPend.produced = s.produced := rfl
@[simp] theorem State.clearPend_frames (s : State) : s.clearPend.frames = s.frames := rfl
@[simp] theorem State.clearPend_pend (s : State) : s.clearPend.pend = none := rfl
@[simp] theorem State.clearPend_code (s : State) : s.clearPend.code = s.code := rfl
@[simp] theorem State.clearPend_sr (s : State) : s.clearPend.sr = s.sr := rfl
@[simp] theorem State.clearPend_gen (s : State) : s.clearPend.gen = s.gen := rfl
@[simp] theorem State.clearPend_rom (s : State) : s.clearPend.rom = s.rom := rfl
@[simp] theorem State.clearPend_ibuf (s : State) : s.clearPend.ibuf = s.ibuf := rfl
@[simp] theorem State.clearPend_obuf (s : State) : s.clearPend.obuf = s.obuf := rfl
@[simp] theorem State.clearPend_haz (s : State) : s.clearPend.haz = s.haz := rfl
@[simp] theorem State.clearPend_params (s : State) : s.clearPend.params = s.params := rfl
@[simp] theorem State.clearPend_unpolled (s : State) : s.clearPend.unpolled = s.unpolled := rfl
@[simp] theorem State.clearPend_unadmitted (s : State) : s.clearPend.unadmitted = s.unadmitted := rfl
@[simp] theorem State.clearPend_hostOps (s : State) : s.clearPend.hostOps = s.hostOps := rfl
@[simp] theorem State.clearPend_sched (s : State) : s.clearPend.sched = s.sched := rfl
@[simp] theorem State.clearPend_results (s : State) : s.clearPend.results = s.results := rfl
@[simp] theorem State.clearPend_draws (s : State) : s.clearPend.draws = s.draws := rfl

/-! ## State.latch -/

@[simp] theorem State.latch_mode (s : State) (p : Pending) : (s.latch p).mode = s.mode := rfl
@[simp] theorem State.latch_unsup (s : State) (p : Pending) : (s.latch p).unsup = s.unsup := rfl
@[simp] theorem State.latch_drained (s : State) (p : Pending) : (s.latch p).drained = s.drained := rfl
@[simp] theorem State.latch_stall (s : State) (p : Pending) : (s.latch p).stall = s.stall := rfl
@[simp] theorem State.latch_err (s : State) (p : Pending) : (s.latch p).err = s.err := rfl
@[simp] theorem State.latch_cfgClass (s : State) (p : Pending) : (s.latch p).cfgClass = s.cfgClass := rfl
@[simp] theorem State.latch_cfgRate (s : State) (p : Pending) : (s.latch p).cfgRate = s.cfgRate := rfl
@[simp] theorem State.latch_inBase (s : State) (p : Pending) : (s.latch p).inBase = s.inBase := rfl
@[simp] theorem State.latch_inAvail (s : State) (p : Pending) : (s.latch p).inAvail = s.inAvail := rfl
@[simp] theorem State.latch_outBase (s : State) (p : Pending) : (s.latch p).outBase = s.outBase := rfl
@[simp] theorem State.latch_outSpace (s : State) (p : Pending) : (s.latch p).outSpace = s.outSpace := rfl
@[simp] theorem State.latch_consumed (s : State) (p : Pending) : (s.latch p).consumed = s.consumed := rfl
@[simp] theorem State.latch_produced (s : State) (p : Pending) : (s.latch p).produced = s.produced := rfl
@[simp] theorem State.latch_frames (s : State) (p : Pending) : (s.latch p).frames = s.frames := rfl
@[simp] theorem State.latch_pend (s : State) (p : Pending) : (s.latch p).pend = some p := rfl
@[simp] theorem State.latch_code (s : State) (p : Pending) : (s.latch p).code = s.code := rfl
@[simp] theorem State.latch_sr (s : State) (p : Pending) : (s.latch p).sr = s.sr := rfl
@[simp] theorem State.latch_gen (s : State) (p : Pending) : (s.latch p).gen = s.gen := rfl
@[simp] theorem State.latch_rom (s : State) (p : Pending) : (s.latch p).rom = s.rom := rfl
@[simp] theorem State.latch_ibuf (s : State) (p : Pending) : (s.latch p).ibuf = s.ibuf := rfl
@[simp] theorem State.latch_obuf (s : State) (p : Pending) : (s.latch p).obuf = s.obuf := rfl
@[simp] theorem State.latch_haz (s : State) (p : Pending) : (s.latch p).haz = s.haz := rfl
@[simp] theorem State.latch_params (s : State) (p : Pending) : (s.latch p).params = s.params := rfl
@[simp] theorem State.latch_unpolled (s : State) (p : Pending) : (s.latch p).unpolled = p :: s.unpolled := rfl
@[simp] theorem State.latch_unadmitted (s : State) (p : Pending) : (s.latch p).unadmitted = s.unadmitted := rfl
@[simp] theorem State.latch_hostOps (s : State) (p : Pending) : (s.latch p).hostOps = s.hostOps := rfl
@[simp] theorem State.latch_sched (s : State) (p : Pending) : (s.latch p).sched = s.sched := rfl
@[simp] theorem State.latch_results (s : State) (p : Pending) : (s.latch p).results = s.results := rfl
@[simp] theorem State.latch_draws (s : State) (p : Pending) : (s.latch p).draws = s.draws := rfl

/-! ## State.turnAway -/

@[simp] theorem State.turnAway_mode (s : State) (e : ErrBit) : (s.turnAway e).mode = s.mode := rfl
@[simp] theorem State.turnAway_unsup (s : State) (e : ErrBit) : (s.turnAway e).unsup = s.unsup := rfl
@[simp] theorem State.turnAway_drained (s : State) (e : ErrBit) : (s.turnAway e).drained = s.drained := rfl
@[simp] theorem State.turnAway_stall (s : State) (e : ErrBit) : (s.turnAway e).stall = s.stall := rfl
@[simp] theorem State.turnAway_err (s : State) (e : ErrBit) : (s.turnAway e).err = s.err ||| errMask e := rfl
@[simp] theorem State.turnAway_cfgClass (s : State) (e : ErrBit) : (s.turnAway e).cfgClass = s.cfgClass := rfl
@[simp] theorem State.turnAway_cfgRate (s : State) (e : ErrBit) : (s.turnAway e).cfgRate = s.cfgRate := rfl
@[simp] theorem State.turnAway_inBase (s : State) (e : ErrBit) : (s.turnAway e).inBase = s.inBase := rfl
@[simp] theorem State.turnAway_inAvail (s : State) (e : ErrBit) : (s.turnAway e).inAvail = s.inAvail := rfl
@[simp] theorem State.turnAway_outBase (s : State) (e : ErrBit) : (s.turnAway e).outBase = s.outBase := rfl
@[simp] theorem State.turnAway_outSpace (s : State) (e : ErrBit) : (s.turnAway e).outSpace = s.outSpace := rfl
@[simp] theorem State.turnAway_consumed (s : State) (e : ErrBit) : (s.turnAway e).consumed = s.consumed := rfl
@[simp] theorem State.turnAway_produced (s : State) (e : ErrBit) : (s.turnAway e).produced = s.produced := rfl
@[simp] theorem State.turnAway_frames (s : State) (e : ErrBit) : (s.turnAway e).frames = s.frames := rfl
@[simp] theorem State.turnAway_pend (s : State) (e : ErrBit) : (s.turnAway e).pend = none := rfl
@[simp] theorem State.turnAway_code (s : State) (e : ErrBit) : (s.turnAway e).code = s.code := rfl
@[simp] theorem State.turnAway_sr (s : State) (e : ErrBit) : (s.turnAway e).sr = s.sr := rfl
@[simp] theorem State.turnAway_gen (s : State) (e : ErrBit) : (s.turnAway e).gen = s.gen := rfl
@[simp] theorem State.turnAway_rom (s : State) (e : ErrBit) : (s.turnAway e).rom = s.rom := rfl
@[simp] theorem State.turnAway_ibuf (s : State) (e : ErrBit) : (s.turnAway e).ibuf = s.ibuf := rfl
@[simp] theorem State.turnAway_obuf (s : State) (e : ErrBit) : (s.turnAway e).obuf = s.obuf := rfl
@[simp] theorem State.turnAway_haz (s : State) (e : ErrBit) : (s.turnAway e).haz = s.haz := rfl
@[simp] theorem State.turnAway_params (s : State) (e : ErrBit) : (s.turnAway e).params = s.params := rfl
@[simp] theorem State.turnAway_unpolled (s : State) (e : ErrBit) : (s.turnAway e).unpolled = s.unpolled := rfl
@[simp] theorem State.turnAway_unadmitted (s : State) (e : ErrBit) : (s.turnAway e).unadmitted = s.unadmitted := rfl
@[simp] theorem State.turnAway_hostOps (s : State) (e : ErrBit) : (s.turnAway e).hostOps = s.hostOps := rfl
@[simp] theorem State.turnAway_sched (s : State) (e : ErrBit) : (s.turnAway e).sched = s.sched := rfl
@[simp] theorem State.turnAway_results (s : State) (e : ErrBit) : (s.turnAway e).results = s.results := rfl
@[simp] theorem State.turnAway_draws (s : State) (e : ErrBit) : (s.turnAway e).draws = s.draws := rfl

/-! ## State.busError -/

@[simp] theorem State.busError_mode (s : State) : s.busError.mode = s.mode := rfl
@[simp] theorem State.busError_unsup (s : State) : s.busError.unsup = s.unsup := rfl
@[simp] theorem State.busError_drained (s : State) : s.busError.drained = s.drained := rfl
@[simp] theorem State.busError_stall (s : State) : s.busError.stall = s.stall := rfl
@[simp] theorem State.busError_err (s : State) : s.busError.err = s.err ||| errMask .bus := rfl
@[simp] theorem State.busError_cfgClass (s : State) : s.busError.cfgClass = s.cfgClass := rfl
@[simp] theorem State.busError_cfgRate (s : State) : s.busError.cfgRate = s.cfgRate := rfl
@[simp] theorem State.busError_inBase (s : State) : s.busError.inBase = s.inBase := rfl
@[simp] theorem State.busError_inAvail (s : State) : s.busError.inAvail = s.inAvail := rfl
@[simp] theorem State.busError_outBase (s : State) : s.busError.outBase = s.outBase := rfl
@[simp] theorem State.busError_outSpace (s : State) : s.busError.outSpace = s.outSpace := rfl
@[simp] theorem State.busError_consumed (s : State) : s.busError.consumed = s.consumed := rfl
@[simp] theorem State.busError_produced (s : State) : s.busError.produced = s.produced := rfl
@[simp] theorem State.busError_frames (s : State) : s.busError.frames = s.frames := rfl
@[simp] theorem State.busError_pend (s : State) : s.busError.pend = s.pend := rfl
@[simp] theorem State.busError_code (s : State) : s.busError.code = s.code := rfl
@[simp] theorem State.busError_sr (s : State) : s.busError.sr = s.sr := rfl
@[simp] theorem State.busError_gen (s : State) : s.busError.gen = s.gen := rfl
@[simp] theorem State.busError_rom (s : State) : s.busError.rom = s.rom := rfl
@[simp] theorem State.busError_ibuf (s : State) : s.busError.ibuf = s.ibuf := rfl
@[simp] theorem State.busError_obuf (s : State) : s.busError.obuf = s.obuf := rfl
@[simp] theorem State.busError_haz (s : State) : s.busError.haz = s.haz := rfl
@[simp] theorem State.busError_params (s : State) : s.busError.params = s.params := rfl
@[simp] theorem State.busError_unpolled (s : State) : s.busError.unpolled = s.unpolled := rfl
@[simp] theorem State.busError_unadmitted (s : State) : s.busError.unadmitted = true := rfl
@[simp] theorem State.busError_hostOps (s : State) : s.busError.hostOps = s.hostOps := rfl
@[simp] theorem State.busError_sched (s : State) : s.busError.sched = s.sched := rfl
@[simp] theorem State.busError_results (s : State) : s.busError.results = s.results := rfl
@[simp] theorem State.busError_draws (s : State) : s.busError.draws = s.draws := rfl

/-! ## State.pushResult -/

@[simp] theorem State.pushResult_mode (s : State) (v : Word) : (s.pushResult v).mode = s.mode := rfl
@[simp] theorem State.pushResult_unsup (s : State) (v : Word) : (s.pushResult v).unsup = s.unsup := rfl
@[simp] theorem State.pushResult_drained (s : State) (v : Word) : (s.pushResult v).drained = s.drained := rfl
@[simp] theorem State.pushResult_stall (s : State) (v : Word) : (s.pushResult v).stall = s.stall := rfl
@[simp] theorem State.pushResult_err (s : State) (v : Word) : (s.pushResult v).err = s.err := rfl
@[simp] theorem State.pushResult_cfgClass (s : State) (v : Word) : (s.pushResult v).cfgClass = s.cfgClass := rfl
@[simp] theorem State.pushResult_cfgRate (s : State) (v : Word) : (s.pushResult v).cfgRate = s.cfgRate := rfl
@[simp] theorem State.pushResult_inBase (s : State) (v : Word) : (s.pushResult v).inBase = s.inBase := rfl
@[simp] theorem State.pushResult_inAvail (s : State) (v : Word) : (s.pushResult v).inAvail = s.inAvail := rfl
@[simp] theorem State.pushResult_outBase (s : State) (v : Word) : (s.pushResult v).outBase = s.outBase := rfl
@[simp] theorem State.pushResult_outSpace (s : State) (v : Word) : (s.pushResult v).outSpace = s.outSpace := rfl
@[simp] theorem State.pushResult_consumed (s : State) (v : Word) : (s.pushResult v).consumed = s.consumed := rfl
@[simp] theorem State.pushResult_produced (s : State) (v : Word) : (s.pushResult v).produced = s.produced := rfl
@[simp] theorem State.pushResult_frames (s : State) (v : Word) : (s.pushResult v).frames = s.frames := rfl
@[simp] theorem State.pushResult_pend (s : State) (v : Word) : (s.pushResult v).pend = s.pend := rfl
@[simp] theorem State.pushResult_code (s : State) (v : Word) : (s.pushResult v).code = s.code := rfl
@[simp] theorem State.pushResult_sr (s : State) (v : Word) : (s.pushResult v).sr = s.sr := rfl
@[simp] theorem State.pushResult_gen (s : State) (v : Word) : (s.pushResult v).gen = s.gen := rfl
@[simp] theorem State.pushResult_rom (s : State) (v : Word) : (s.pushResult v).rom = s.rom := rfl
@[simp] theorem State.pushResult_ibuf (s : State) (v : Word) : (s.pushResult v).ibuf = s.ibuf := rfl
@[simp] theorem State.pushResult_obuf (s : State) (v : Word) : (s.pushResult v).obuf = s.obuf := rfl
@[simp] theorem State.pushResult_haz (s : State) (v : Word) : (s.pushResult v).haz = s.haz := rfl
@[simp] theorem State.pushResult_params (s : State) (v : Word) : (s.pushResult v).params = s.params := rfl
@[simp] theorem State.pushResult_unpolled (s : State) (v : Word) : (s.pushResult v).unpolled = s.unpolled := rfl
@[simp] theorem State.pushResult_unadmitted (s : State) (v : Word) : (s.pushResult v).unadmitted = s.unadmitted := rfl
@[simp] theorem State.pushResult_hostOps (s : State) (v : Word) : (s.pushResult v).hostOps = s.hostOps := rfl
@[simp] theorem State.pushResult_sched (s : State) (v : Word) : (s.pushResult v).sched = s.sched := rfl
@[simp] theorem State.pushResult_results (s : State) (v : Word) : (s.pushResult v).results = v :: s.results := rfl
@[simp] theorem State.pushResult_draws (s : State) (v : Word) : (s.pushResult v).draws = s.draws := rfl

/-! ## State.advanceDraws -/

@[simp] theorem State.advanceDraws_mode (s : State) (n : Nat) : (s.advanceDraws n).mode = s.mode := rfl
@[simp] theorem State.advanceDraws_unsup (s : State) (n : Nat) : (s.advanceDraws n).unsup = s.unsup := rfl
@[simp] theorem State.advanceDraws_drained (s : State) (n : Nat) : (s.advanceDraws n).drained = s.drained := rfl
@[simp] theorem State.advanceDraws_stall (s : State) (n : Nat) : (s.advanceDraws n).stall = s.stall := rfl
@[simp] theorem State.advanceDraws_err (s : State) (n : Nat) : (s.advanceDraws n).err = s.err := rfl
@[simp] theorem State.advanceDraws_cfgClass (s : State) (n : Nat) : (s.advanceDraws n).cfgClass = s.cfgClass := rfl
@[simp] theorem State.advanceDraws_cfgRate (s : State) (n : Nat) : (s.advanceDraws n).cfgRate = s.cfgRate := rfl
@[simp] theorem State.advanceDraws_inBase (s : State) (n : Nat) : (s.advanceDraws n).inBase = s.inBase := rfl
@[simp] theorem State.advanceDraws_inAvail (s : State) (n : Nat) : (s.advanceDraws n).inAvail = s.inAvail := rfl
@[simp] theorem State.advanceDraws_outBase (s : State) (n : Nat) : (s.advanceDraws n).outBase = s.outBase := rfl
@[simp] theorem State.advanceDraws_outSpace (s : State) (n : Nat) : (s.advanceDraws n).outSpace = s.outSpace := rfl
@[simp] theorem State.advanceDraws_consumed (s : State) (n : Nat) : (s.advanceDraws n).consumed = s.consumed := rfl
@[simp] theorem State.advanceDraws_produced (s : State) (n : Nat) : (s.advanceDraws n).produced = s.produced := rfl
@[simp] theorem State.advanceDraws_frames (s : State) (n : Nat) : (s.advanceDraws n).frames = s.frames := rfl
@[simp] theorem State.advanceDraws_pend (s : State) (n : Nat) : (s.advanceDraws n).pend = s.pend := rfl
@[simp] theorem State.advanceDraws_code (s : State) (n : Nat) : (s.advanceDraws n).code = s.code := rfl
@[simp] theorem State.advanceDraws_sr (s : State) (n : Nat) : (s.advanceDraws n).sr = s.sr := rfl
@[simp] theorem State.advanceDraws_gen (s : State) (n : Nat) : (s.advanceDraws n).gen = s.gen := rfl
@[simp] theorem State.advanceDraws_rom (s : State) (n : Nat) : (s.advanceDraws n).rom = s.rom := rfl
@[simp] theorem State.advanceDraws_ibuf (s : State) (n : Nat) : (s.advanceDraws n).ibuf = s.ibuf := rfl
@[simp] theorem State.advanceDraws_obuf (s : State) (n : Nat) : (s.advanceDraws n).obuf = s.obuf := rfl
@[simp] theorem State.advanceDraws_haz (s : State) (n : Nat) : (s.advanceDraws n).haz = s.haz := rfl
@[simp] theorem State.advanceDraws_params (s : State) (n : Nat) : (s.advanceDraws n).params = s.params := rfl
@[simp] theorem State.advanceDraws_unpolled (s : State) (n : Nat) : (s.advanceDraws n).unpolled = s.unpolled := rfl
@[simp] theorem State.advanceDraws_unadmitted (s : State) (n : Nat) : (s.advanceDraws n).unadmitted = s.unadmitted := rfl
@[simp] theorem State.advanceDraws_hostOps (s : State) (n : Nat) : (s.advanceDraws n).hostOps = s.hostOps := rfl
@[simp] theorem State.advanceDraws_sched (s : State) (n : Nat) : (s.advanceDraws n).sched = s.sched := rfl
@[simp] theorem State.advanceDraws_results (s : State) (n : Nat) : (s.advanceDraws n).results = s.results := rfl
@[simp] theorem State.advanceDraws_draws (s : State) (n : Nat) : (s.advanceDraws n).draws = s.draws + n := rfl

/-! ## State.setHaz -/

@[simp] theorem State.setHaz_mode (s : State) : s.setHaz.mode = s.mode := rfl
@[simp] theorem State.setHaz_unsup (s : State) : s.setHaz.unsup = s.unsup := rfl
@[simp] theorem State.setHaz_drained (s : State) : s.setHaz.drained = s.drained := rfl
@[simp] theorem State.setHaz_stall (s : State) : s.setHaz.stall = s.stall := rfl
@[simp] theorem State.setHaz_err (s : State) : s.setHaz.err = s.err := rfl
@[simp] theorem State.setHaz_cfgClass (s : State) : s.setHaz.cfgClass = s.cfgClass := rfl
@[simp] theorem State.setHaz_cfgRate (s : State) : s.setHaz.cfgRate = s.cfgRate := rfl
@[simp] theorem State.setHaz_inBase (s : State) : s.setHaz.inBase = s.inBase := rfl
@[simp] theorem State.setHaz_inAvail (s : State) : s.setHaz.inAvail = s.inAvail := rfl
@[simp] theorem State.setHaz_outBase (s : State) : s.setHaz.outBase = s.outBase := rfl
@[simp] theorem State.setHaz_outSpace (s : State) : s.setHaz.outSpace = s.outSpace := rfl
@[simp] theorem State.setHaz_consumed (s : State) : s.setHaz.consumed = s.consumed := rfl
@[simp] theorem State.setHaz_produced (s : State) : s.setHaz.produced = s.produced := rfl
@[simp] theorem State.setHaz_frames (s : State) : s.setHaz.frames = s.frames := rfl
@[simp] theorem State.setHaz_pend (s : State) : s.setHaz.pend = s.pend := rfl
@[simp] theorem State.setHaz_code (s : State) : s.setHaz.code = s.code := rfl
@[simp] theorem State.setHaz_sr (s : State) : s.setHaz.sr = s.sr := rfl
@[simp] theorem State.setHaz_gen (s : State) : s.setHaz.gen = s.gen := rfl
@[simp] theorem State.setHaz_rom (s : State) : s.setHaz.rom = s.rom := rfl
@[simp] theorem State.setHaz_ibuf (s : State) : s.setHaz.ibuf = s.ibuf := rfl
@[simp] theorem State.setHaz_obuf (s : State) : s.setHaz.obuf = s.obuf := rfl
@[simp] theorem State.setHaz_haz (s : State) : s.setHaz.haz = true := rfl
@[simp] theorem State.setHaz_params (s : State) : s.setHaz.params = s.params := rfl
@[simp] theorem State.setHaz_unpolled (s : State) : s.setHaz.unpolled = s.unpolled := rfl
@[simp] theorem State.setHaz_unadmitted (s : State) : s.setHaz.unadmitted = s.unadmitted := rfl
@[simp] theorem State.setHaz_hostOps (s : State) : s.setHaz.hostOps = s.hostOps := rfl
@[simp] theorem State.setHaz_sched (s : State) : s.setHaz.sched = s.sched := rfl
@[simp] theorem State.setHaz_results (s : State) : s.setHaz.results = s.results := rfl
@[simp] theorem State.setHaz_draws (s : State) : s.setHaz.draws = s.draws := rfl

/-! ## State.setUnadmitted -/

@[simp] theorem State.setUnadmitted_mode (s : State) : s.setUnadmitted.mode = s.mode := rfl
@[simp] theorem State.setUnadmitted_unsup (s : State) : s.setUnadmitted.unsup = s.unsup := rfl
@[simp] theorem State.setUnadmitted_drained (s : State) : s.setUnadmitted.drained = s.drained := rfl
@[simp] theorem State.setUnadmitted_stall (s : State) : s.setUnadmitted.stall = s.stall := rfl
@[simp] theorem State.setUnadmitted_err (s : State) : s.setUnadmitted.err = s.err := rfl
@[simp] theorem State.setUnadmitted_cfgClass (s : State) : s.setUnadmitted.cfgClass = s.cfgClass := rfl
@[simp] theorem State.setUnadmitted_cfgRate (s : State) : s.setUnadmitted.cfgRate = s.cfgRate := rfl
@[simp] theorem State.setUnadmitted_inBase (s : State) : s.setUnadmitted.inBase = s.inBase := rfl
@[simp] theorem State.setUnadmitted_inAvail (s : State) : s.setUnadmitted.inAvail = s.inAvail := rfl
@[simp] theorem State.setUnadmitted_outBase (s : State) : s.setUnadmitted.outBase = s.outBase := rfl
@[simp] theorem State.setUnadmitted_outSpace (s : State) : s.setUnadmitted.outSpace = s.outSpace := rfl
@[simp] theorem State.setUnadmitted_consumed (s : State) : s.setUnadmitted.consumed = s.consumed := rfl
@[simp] theorem State.setUnadmitted_produced (s : State) : s.setUnadmitted.produced = s.produced := rfl
@[simp] theorem State.setUnadmitted_frames (s : State) : s.setUnadmitted.frames = s.frames := rfl
@[simp] theorem State.setUnadmitted_pend (s : State) : s.setUnadmitted.pend = s.pend := rfl
@[simp] theorem State.setUnadmitted_code (s : State) : s.setUnadmitted.code = s.code := rfl
@[simp] theorem State.setUnadmitted_sr (s : State) : s.setUnadmitted.sr = s.sr := rfl
@[simp] theorem State.setUnadmitted_gen (s : State) : s.setUnadmitted.gen = s.gen := rfl
@[simp] theorem State.setUnadmitted_rom (s : State) : s.setUnadmitted.rom = s.rom := rfl
@[simp] theorem State.setUnadmitted_ibuf (s : State) : s.setUnadmitted.ibuf = s.ibuf := rfl
@[simp] theorem State.setUnadmitted_obuf (s : State) : s.setUnadmitted.obuf = s.obuf := rfl
@[simp] theorem State.setUnadmitted_haz (s : State) : s.setUnadmitted.haz = s.haz := rfl
@[simp] theorem State.setUnadmitted_params (s : State) : s.setUnadmitted.params = s.params := rfl
@[simp] theorem State.setUnadmitted_unpolled (s : State) : s.setUnadmitted.unpolled = s.unpolled := rfl
@[simp] theorem State.setUnadmitted_unadmitted (s : State) : s.setUnadmitted.unadmitted = true := rfl
@[simp] theorem State.setUnadmitted_hostOps (s : State) : s.setUnadmitted.hostOps = s.hostOps := rfl
@[simp] theorem State.setUnadmitted_sched (s : State) : s.setUnadmitted.sched = s.sched := rfl
@[simp] theorem State.setUnadmitted_results (s : State) : s.setUnadmitted.results = s.results := rfl
@[simp] theorem State.setUnadmitted_draws (s : State) : s.setUnadmitted.draws = s.draws := rfl

/-! ## State.closeWindows -/

@[simp] theorem State.closeWindows_mode (s : State) : s.closeWindows.mode = s.mode := rfl
@[simp] theorem State.closeWindows_unsup (s : State) : s.closeWindows.unsup = s.unsup := rfl
@[simp] theorem State.closeWindows_drained (s : State) : s.closeWindows.drained = s.drained := rfl
@[simp] theorem State.closeWindows_stall (s : State) : s.closeWindows.stall = s.stall := rfl
@[simp] theorem State.closeWindows_err (s : State) : s.closeWindows.err = s.err := rfl
@[simp] theorem State.closeWindows_cfgClass (s : State) : s.closeWindows.cfgClass = s.cfgClass := rfl
@[simp] theorem State.closeWindows_cfgRate (s : State) : s.closeWindows.cfgRate = s.cfgRate := rfl
@[simp] theorem State.closeWindows_inBase (s : State) : s.closeWindows.inBase = s.inBase := rfl
@[simp] theorem State.closeWindows_inAvail (s : State) : s.closeWindows.inAvail = s.inAvail := rfl
@[simp] theorem State.closeWindows_outBase (s : State) : s.closeWindows.outBase = s.outBase := rfl
@[simp] theorem State.closeWindows_outSpace (s : State) : s.closeWindows.outSpace = s.outSpace := rfl
@[simp] theorem State.closeWindows_consumed (s : State) : s.closeWindows.consumed = s.consumed := rfl
@[simp] theorem State.closeWindows_produced (s : State) : s.closeWindows.produced = s.produced := rfl
@[simp] theorem State.closeWindows_frames (s : State) : s.closeWindows.frames = s.frames := rfl
@[simp] theorem State.closeWindows_pend (s : State) : s.closeWindows.pend = s.pend := rfl
@[simp] theorem State.closeWindows_code (s : State) : s.closeWindows.code = s.code := rfl
@[simp] theorem State.closeWindows_sr (s : State) : s.closeWindows.sr = s.sr := rfl
@[simp] theorem State.closeWindows_gen (s : State) : s.closeWindows.gen = s.gen := rfl
@[simp] theorem State.closeWindows_rom (s : State) : s.closeWindows.rom = s.rom := rfl
@[simp] theorem State.closeWindows_ibuf (s : State) : s.closeWindows.ibuf = s.ibuf := rfl
@[simp] theorem State.closeWindows_obuf (s : State) : s.closeWindows.obuf = s.obuf := rfl
@[simp] theorem State.closeWindows_haz (s : State) : s.closeWindows.haz = s.haz := rfl
@[simp] theorem State.closeWindows_params (s : State) : s.closeWindows.params = s.params := rfl
@[simp] theorem State.closeWindows_unpolled (s : State) : s.closeWindows.unpolled = [] := rfl
@[simp] theorem State.closeWindows_unadmitted (s : State) : s.closeWindows.unadmitted = s.unadmitted := rfl
@[simp] theorem State.closeWindows_hostOps (s : State) : s.closeWindows.hostOps = s.hostOps := rfl
@[simp] theorem State.closeWindows_sched (s : State) : s.closeWindows.sched = s.sched := rfl
@[simp] theorem State.closeWindows_results (s : State) : s.closeWindows.results = s.results := rfl
@[simp] theorem State.closeWindows_draws (s : State) : s.closeWindows.draws = s.draws := rfl

/-! ## State.popOp -/

@[simp] theorem State.popOp_mode (s : State) : s.popOp.mode = s.mode := rfl
@[simp] theorem State.popOp_unsup (s : State) : s.popOp.unsup = s.unsup := rfl
@[simp] theorem State.popOp_drained (s : State) : s.popOp.drained = s.drained := rfl
@[simp] theorem State.popOp_stall (s : State) : s.popOp.stall = s.stall := rfl
@[simp] theorem State.popOp_err (s : State) : s.popOp.err = s.err := rfl
@[simp] theorem State.popOp_cfgClass (s : State) : s.popOp.cfgClass = s.cfgClass := rfl
@[simp] theorem State.popOp_cfgRate (s : State) : s.popOp.cfgRate = s.cfgRate := rfl
@[simp] theorem State.popOp_inBase (s : State) : s.popOp.inBase = s.inBase := rfl
@[simp] theorem State.popOp_inAvail (s : State) : s.popOp.inAvail = s.inAvail := rfl
@[simp] theorem State.popOp_outBase (s : State) : s.popOp.outBase = s.outBase := rfl
@[simp] theorem State.popOp_outSpace (s : State) : s.popOp.outSpace = s.outSpace := rfl
@[simp] theorem State.popOp_consumed (s : State) : s.popOp.consumed = s.consumed := rfl
@[simp] theorem State.popOp_produced (s : State) : s.popOp.produced = s.produced := rfl
@[simp] theorem State.popOp_frames (s : State) : s.popOp.frames = s.frames := rfl
@[simp] theorem State.popOp_pend (s : State) : s.popOp.pend = s.pend := rfl
@[simp] theorem State.popOp_code (s : State) : s.popOp.code = s.code := rfl
@[simp] theorem State.popOp_sr (s : State) : s.popOp.sr = s.sr := rfl
@[simp] theorem State.popOp_gen (s : State) : s.popOp.gen = s.gen := rfl
@[simp] theorem State.popOp_rom (s : State) : s.popOp.rom = s.rom := rfl
@[simp] theorem State.popOp_ibuf (s : State) : s.popOp.ibuf = s.ibuf := rfl
@[simp] theorem State.popOp_obuf (s : State) : s.popOp.obuf = s.obuf := rfl
@[simp] theorem State.popOp_haz (s : State) : s.popOp.haz = s.haz := rfl
@[simp] theorem State.popOp_params (s : State) : s.popOp.params = s.params := rfl
@[simp] theorem State.popOp_unpolled (s : State) : s.popOp.unpolled = s.unpolled := rfl
@[simp] theorem State.popOp_unadmitted (s : State) : s.popOp.unadmitted = s.unadmitted := rfl
@[simp] theorem State.popOp_hostOps (s : State) : s.popOp.hostOps = s.hostOps.tail := rfl
@[simp] theorem State.popOp_sched (s : State) : s.popOp.sched = s.sched := rfl
@[simp] theorem State.popOp_results (s : State) : s.popOp.results = s.results := rfl
@[simp] theorem State.popOp_draws (s : State) : s.popOp.draws = s.draws := rfl

/-! ## State.popTurn -/

@[simp] theorem State.popTurn_mode (s : State) : s.popTurn.mode = s.mode := rfl
@[simp] theorem State.popTurn_unsup (s : State) : s.popTurn.unsup = s.unsup := rfl
@[simp] theorem State.popTurn_drained (s : State) : s.popTurn.drained = s.drained := rfl
@[simp] theorem State.popTurn_stall (s : State) : s.popTurn.stall = s.stall := rfl
@[simp] theorem State.popTurn_err (s : State) : s.popTurn.err = s.err := rfl
@[simp] theorem State.popTurn_cfgClass (s : State) : s.popTurn.cfgClass = s.cfgClass := rfl
@[simp] theorem State.popTurn_cfgRate (s : State) : s.popTurn.cfgRate = s.cfgRate := rfl
@[simp] theorem State.popTurn_inBase (s : State) : s.popTurn.inBase = s.inBase := rfl
@[simp] theorem State.popTurn_inAvail (s : State) : s.popTurn.inAvail = s.inAvail := rfl
@[simp] theorem State.popTurn_outBase (s : State) : s.popTurn.outBase = s.outBase := rfl
@[simp] theorem State.popTurn_outSpace (s : State) : s.popTurn.outSpace = s.outSpace := rfl
@[simp] theorem State.popTurn_consumed (s : State) : s.popTurn.consumed = s.consumed := rfl
@[simp] theorem State.popTurn_produced (s : State) : s.popTurn.produced = s.produced := rfl
@[simp] theorem State.popTurn_frames (s : State) : s.popTurn.frames = s.frames := rfl
@[simp] theorem State.popTurn_pend (s : State) : s.popTurn.pend = s.pend := rfl
@[simp] theorem State.popTurn_code (s : State) : s.popTurn.code = s.code := rfl
@[simp] theorem State.popTurn_sr (s : State) : s.popTurn.sr = s.sr := rfl
@[simp] theorem State.popTurn_gen (s : State) : s.popTurn.gen = s.gen := rfl
@[simp] theorem State.popTurn_rom (s : State) : s.popTurn.rom = s.rom := rfl
@[simp] theorem State.popTurn_ibuf (s : State) : s.popTurn.ibuf = s.ibuf := rfl
@[simp] theorem State.popTurn_obuf (s : State) : s.popTurn.obuf = s.obuf := rfl
@[simp] theorem State.popTurn_haz (s : State) : s.popTurn.haz = s.haz := rfl
@[simp] theorem State.popTurn_params (s : State) : s.popTurn.params = s.params := rfl
@[simp] theorem State.popTurn_unpolled (s : State) : s.popTurn.unpolled = s.unpolled := rfl
@[simp] theorem State.popTurn_unadmitted (s : State) : s.popTurn.unadmitted = s.unadmitted := rfl
@[simp] theorem State.popTurn_hostOps (s : State) : s.popTurn.hostOps = s.hostOps := rfl
@[simp] theorem State.popTurn_sched (s : State) : s.popTurn.sched = s.sched.tail := rfl
@[simp] theorem State.popTurn_results (s : State) : s.popTurn.results = s.results := rfl
@[simp] theorem State.popTurn_draws (s : State) : s.popTurn.draws = s.draws := rfl

/-! ## State.configure -/

@[simp] theorem State.configure_mode (s : State) (cls : BitVec 2) (rate : BitVec 6) : (s.configure cls rate).mode = if (resolve s.rom cls rate).isSome then .active else .idle := rfl
@[simp] theorem State.configure_unsup (s : State) (cls : BitVec 2) (rate : BitVec 6) : (s.configure cls rate).unsup = (resolve s.rom cls rate).isNone := rfl
@[simp] theorem State.configure_drained (s : State) (cls : BitVec 2) (rate : BitVec 6) : (s.configure cls rate).drained = false := rfl
@[simp] theorem State.configure_stall (s : State) (cls : BitVec 2) (rate : BitVec 6) : (s.configure cls rate).stall = false := rfl
@[simp] theorem State.configure_err (s : State) (cls : BitVec 2) (rate : BitVec 6) : (s.configure cls rate).err = s.err := rfl
@[simp] theorem State.configure_cfgClass (s : State) (cls : BitVec 2) (rate : BitVec 6) : (s.configure cls rate).cfgClass = cls := rfl
@[simp] theorem State.configure_cfgRate (s : State) (cls : BitVec 2) (rate : BitVec 6) : (s.configure cls rate).cfgRate = rate := rfl
@[simp] theorem State.configure_inBase (s : State) (cls : BitVec 2) (rate : BitVec 6) : (s.configure cls rate).inBase = s.inBase := rfl
@[simp] theorem State.configure_inAvail (s : State) (cls : BitVec 2) (rate : BitVec 6) : (s.configure cls rate).inAvail = s.inAvail := rfl
@[simp] theorem State.configure_outBase (s : State) (cls : BitVec 2) (rate : BitVec 6) : (s.configure cls rate).outBase = s.outBase := rfl
@[simp] theorem State.configure_outSpace (s : State) (cls : BitVec 2) (rate : BitVec 6) : (s.configure cls rate).outSpace = s.outSpace := rfl
@[simp] theorem State.configure_consumed (s : State) (cls : BitVec 2) (rate : BitVec 6) : (s.configure cls rate).consumed = 0 := rfl
@[simp] theorem State.configure_produced (s : State) (cls : BitVec 2) (rate : BitVec 6) : (s.configure cls rate).produced = 0 := rfl
@[simp] theorem State.configure_frames (s : State) (cls : BitVec 2) (rate : BitVec 6) : (s.configure cls rate).frames = 0 := rfl
@[simp] theorem State.configure_pend (s : State) (cls : BitVec 2) (rate : BitVec 6) : (s.configure cls rate).pend = s.pend := rfl
@[simp] theorem State.configure_code (s : State) (cls : BitVec 2) (rate : BitVec 6) : (s.configure cls rate).code = resolve s.rom cls rate := rfl
@[simp] theorem State.configure_sr (s : State) (cls : BitVec 2) (rate : BitVec 6) : (s.configure cls rate).sr = s.sr := rfl
@[simp] theorem State.configure_gen (s : State) (cls : BitVec 2) (rate : BitVec 6) : (s.configure cls rate).gen = s.gen := rfl
@[simp] theorem State.configure_rom (s : State) (cls : BitVec 2) (rate : BitVec 6) : (s.configure cls rate).rom = s.rom := rfl
@[simp] theorem State.configure_ibuf (s : State) (cls : BitVec 2) (rate : BitVec 6) : (s.configure cls rate).ibuf = s.ibuf := rfl
@[simp] theorem State.configure_obuf (s : State) (cls : BitVec 2) (rate : BitVec 6) : (s.configure cls rate).obuf = s.obuf := rfl
@[simp] theorem State.configure_haz (s : State) (cls : BitVec 2) (rate : BitVec 6) : (s.configure cls rate).haz = s.haz := rfl
@[simp] theorem State.configure_params (s : State) (cls : BitVec 2) (rate : BitVec 6) : (s.configure cls rate).params = s.params := rfl
@[simp] theorem State.configure_unpolled (s : State) (cls : BitVec 2) (rate : BitVec 6) : (s.configure cls rate).unpolled = s.unpolled := rfl
@[simp] theorem State.configure_unadmitted (s : State) (cls : BitVec 2) (rate : BitVec 6) : (s.configure cls rate).unadmitted = s.unadmitted := rfl
@[simp] theorem State.configure_hostOps (s : State) (cls : BitVec 2) (rate : BitVec 6) : (s.configure cls rate).hostOps = s.hostOps := rfl
@[simp] theorem State.configure_sched (s : State) (cls : BitVec 2) (rate : BitVec 6) : (s.configure cls rate).sched = s.sched := rfl
@[simp] theorem State.configure_results (s : State) (cls : BitVec 2) (rate : BitVec 6) : (s.configure cls rate).results = s.results := rfl
@[simp] theorem State.configure_draws (s : State) (cls : BitVec 2) (rate : BitVec 6) : (s.configure cls rate).draws = s.draws := rfl

/-! ## State.applyReset -/

@[simp] theorem State.applyReset_mode (s : State) : s.applyReset.mode = .init := rfl
@[simp] theorem State.applyReset_unsup (s : State) : s.applyReset.unsup = false := rfl
@[simp] theorem State.applyReset_drained (s : State) : s.applyReset.drained = false := rfl
@[simp] theorem State.applyReset_stall (s : State) : s.applyReset.stall = false := rfl
@[simp] theorem State.applyReset_err (s : State) : s.applyReset.err = 0 := rfl
@[simp] theorem State.applyReset_cfgClass (s : State) : s.applyReset.cfgClass = 0 := rfl
@[simp] theorem State.applyReset_cfgRate (s : State) : s.applyReset.cfgRate = 0 := rfl
@[simp] theorem State.applyReset_inBase (s : State) : s.applyReset.inBase = 0 := rfl
@[simp] theorem State.applyReset_inAvail (s : State) : s.applyReset.inAvail = 0 := rfl
@[simp] theorem State.applyReset_outBase (s : State) : s.applyReset.outBase = 0 := rfl
@[simp] theorem State.applyReset_outSpace (s : State) : s.applyReset.outSpace = 0 := rfl
@[simp] theorem State.applyReset_consumed (s : State) : s.applyReset.consumed = 0 := rfl
@[simp] theorem State.applyReset_produced (s : State) : s.applyReset.produced = 0 := rfl
@[simp] theorem State.applyReset_frames (s : State) : s.applyReset.frames = 0 := rfl
@[simp] theorem State.applyReset_pend (s : State) : s.applyReset.pend = none := rfl
@[simp] theorem State.applyReset_code (s : State) : s.applyReset.code = none := rfl
@[simp] theorem State.applyReset_sr (s : State) : s.applyReset.sr = 0 := rfl
@[simp] theorem State.applyReset_gen (s : State) : s.applyReset.gen = freshGen s.draws := rfl
@[simp] theorem State.applyReset_rom (s : State) : s.applyReset.rom = s.rom := rfl
@[simp] theorem State.applyReset_ibuf (s : State) : s.applyReset.ibuf = [] := rfl
@[simp] theorem State.applyReset_obuf (s : State) : s.applyReset.obuf = [] := rfl
@[simp] theorem State.applyReset_haz (s : State) : s.applyReset.haz = false := rfl
@[simp] theorem State.applyReset_params (s : State) : s.applyReset.params = s.params := rfl
@[simp] theorem State.applyReset_unpolled (s : State) : s.applyReset.unpolled = [] := rfl
@[simp] theorem State.applyReset_unadmitted (s : State) : s.applyReset.unadmitted = false := rfl
@[simp] theorem State.applyReset_hostOps (s : State) : s.applyReset.hostOps = s.hostOps := rfl
@[simp] theorem State.applyReset_sched (s : State) : s.applyReset.sched = s.sched := rfl
@[simp] theorem State.applyReset_results (s : State) : s.applyReset.results = s.results := rfl
@[simp] theorem State.applyReset_draws (s : State) : s.applyReset.draws = s.draws + genWords := rfl

end Sys2Proof.Machine
end

