-- ==== Sys2Proof/Laws/Ops.lean ====
section
/-! SUPPORT. What each shared operation can do, said once: the loop, the admission checks, acceptance, RESOLVE,
BUILD, the host's reads and writes, turns. -/

namespace Sys2Proof.Machine

/-! ## The loop of the pseudocode -/

/-- A property that every pass of the body keeps holds after the loop. -/
theorem forLoop_invariant {σ : Type} {P : Nat → σ → Prop} {f : Nat → σ → σ} {s : σ} (m : Nat) (h0 : P 0 s)
    (hstep : ∀ i t, i < m → P i t → P (i + 1) (f i t)) : P m (forLoop m f s) := by
  induction m with
  | zero => exact h0
  | succ m ih => exact hstep m _ (by omega) (ih fun i t hi => hstep i t (by omega))

/-! ## Admission (30_encoding.md R86) -/

theorem admissionError_nop (s : State) (o : WorkOps) :
    admissionError s .nop o = if s.mode = .init then some .ovr else none := by
  simp [admissionError]

theorem admissionError_cfg (s : State) (cls : BitVec 2) (rate : BitVec 6) (o : WorkOps) :
    admissionError s (.cfg cls rate) o =
      if s.mode = .init then some .ovr else if s.mode = .fault then some .nocfg else none := by
  simp [admissionError]

theorem admissionError_work (s : State) (eof : Bool) (o : WorkOps) :
    admissionError s (.work eof) o =
      if s.mode = .init then some .ovr
      else if s.mode ≠ .active then some .nocfg
      else if inRange s.params o then none
      else some .range := by
  cases h : s.mode <;> simp [admissionError, h]

/-- The errors of admission are OVR, NOCFG and RANGE. -/
theorem admissionError_cases {s : State} {i : Instr} {o : WorkOps} {e : ErrBit}
    (h : admissionError s i o = some e) : e = .ovr ∨ e = .nocfg ∨ e = .range := by
  cases i with
  | nop => rw [admissionError_nop] at h; split at h <;> simp_all
  | cfg cls rate =>
    rw [admissionError_cfg] at h
    split at h
    · simp_all
    · split at h <;> simp_all
  | work eof =>
    rw [admissionError_work] at h
    split at h
    · simp_all
    · split at h
      · simp_all
      · split at h <;> simp_all

/-! ## Acceptance (30_encoding.md R86) -/

/-- Acceptance either raises one error and changes nothing else, or latches the decoded command. -/
theorem accept_cases (v : Word) (s : State) :
    (∃ e, e ≠ .table ∧ accept v s = s.raise e) ∨
      (∃ i, s.mode ≠ .init ∧ s.pend = none ∧ decode v = .instr i ∧
        admissionError s i (s.snapshot false) = none ∧ accept v s = s.latch (s.pendingOf i)) := by
  unfold accept
  split
  · exact .inl ⟨.ovr, by decide, rfl⟩
  · rename_i h
    push Not at h
    cases hd : decode v with
    | illegal w => exact .inl ⟨.illcmd, by decide, rfl⟩
    | instr i =>
      cases ha : admissionError s i (s.snapshot false) with
      | none =>
        refine .inr ⟨i, h.1, ?_, rfl, ha, ?_⟩
        · simpa [State.busy] using h.2
        · simp [ha]
      | some e =>
        refine .inl ⟨e, ?_, ?_⟩
        · rcases admissionError_cases ha with rfl | rfl | rfl <;> decide
        · simp [ha]

/-! ## RESOLVE (42_generator_table.md R134) -/

theorem resolve_eq_none_iff (rom : Rom) (cls : BitVec 2) (rate : BitVec 6) :
    resolve rom cls rate = none ↔ lookupConfig rom.config cls rate = none := by
  unfold resolve; split <;> simp_all

/-- A resolved configuration comes from an entry of the pair. -/
theorem resolve_eq_some {rom : Rom} {cls : BitVec 2} {rate : BitVec 6} {c : Code}
    (h : resolve rom cls rate = some c) :
    ∃ e ∈ rom.config, e.cls = cls ∧ e.rate = rate ∧
      c = { cls := cls, rate := rate, k := e.n - BitVec.ofNat 16 e.fam.redundancy, n := e.n, fam := e.fam } := by
  unfold resolve at h
  split at h
  · simp at h
  · rename_i e he
    have hp := List.find?_some he
    simp only [Bool.and_eq_true, decide_eq_true_eq] at hp
    exact ⟨e, List.mem_of_find?_eq_some he, hp.1, hp.2, by simpa using h.symm⟩

theorem redundancy_pos (f : Family) : 0 < f.redundancy := by cases f <;> decide

theorem redundancy_lt (f : Family) : f.redundancy < 256 := by cases f <;> decide

/-- In a table the spec admits, a resolved configuration has 0 < k < n and n - k = R_f (10_state.md R49). -/
theorem resolve_codeWf {rom : Rom} {cls : BitVec 2} {rate : BitVec 6} {c : Code}
    (ht : configTableWf rom.config = true) (h : resolve rom cls rate = some c) : Safety.codeWf c := by
  obtain ⟨e, he, -, -, rfl⟩ := resolve_eq_some h
  have hw : e.wf = true := by
    simp only [configTableWf, Bool.and_eq_true, List.all_eq_true] at ht
    exact ht.1 e he
  simp only [ConfigEntry.wf, Bool.and_eq_true, decide_eq_true_eq] at hw
  have hr := redundancy_lt e.fam
  have hp := redundancy_pos e.fam
  have hk : (e.n - BitVec.ofNat 16 e.fam.redundancy).toNat = e.n.toNat - e.fam.redundancy := by
    rw [BitVec.toNat_sub_of_le]
    · simp only [BitVec.toNat_ofNat]; omega
    · simp only [BitVec.le_def, BitVec.toNat_ofNat]; omega
  simp only [Safety.codeWf, hk]
  omega

/-! ## BUILD (42_generator_table.md R130) -/

theorem GenStore.get_set (g : GenStore) (f f' : Family) (ws : List Word) :
    (g.set f ws).get f' = if f = f' then ws else g.get f' := by
  cases f <;> cases f' <;> rfl

/-- BUILD ends in IDLE with ERR as it was, or in FAULT with TABLE raised; it changes MODE, ERR and GEN only. -/
theorem buildFrom_cases (fs : List Family) (s : State) :
    (∃ g, buildFrom fs s = { s with gen := g, mode := .idle }) ∨
      (∃ g, buildFrom fs s = { s with gen := g, mode := .fault, err := s.err ||| errMask .table }) := by
  induction fs generalizing s with
  | nil => exact .inl ⟨s.gen, rfl⟩
  | cons f fs ih =>
    unfold buildFrom
    split
    · rename_i ws _
      rcases ih { s with gen := s.gen.set f ws } with ⟨g, hg⟩ | ⟨g, hg⟩
      · exact .inl ⟨g, by rw [hg]⟩
      · exact .inr ⟨g, by rw [hg]⟩
    · exact .inr ⟨s.gen, rfl⟩

/-- Families BUILD does not take keep their words. -/
theorem buildFrom_gen_other {fs : List Family} {f : Family} (hf : f ∉ fs) (s : State) :
    (buildFrom fs s).gen.get f = s.gen.get f := by
  induction fs generalizing s with
  | nil => rfl
  | cons f' fs ih =>
    simp only [List.mem_cons, not_or] at hf
    unfold buildFrom
    split
    · rw [ih hf.2, GenStore.get_set, if_neg (Ne.symm hf.1)]
    · rfl

/-- Where BUILD ends in IDLE, every family it took holds what buildFamily gives. -/
theorem buildFrom_idle_gen {fs : List Family} (hn : fs.Nodup) {s : State}
    (h : (buildFrom fs s).mode = .idle) {f : Family} (hf : f ∈ fs) :
    buildFamily s.params.maxLen f (s.rom.factors.get f) = some ((buildFrom fs s).gen.get f) := by
  induction fs generalizing s with
  | nil => simp at hf
  | cons f' fs ih =>
    have hn' := List.nodup_cons.mp hn
    unfold buildFrom at h ⊢
    split at h
    · rename_i ws hws
      rcases List.mem_cons.mp hf with rfl | hmem
      · simp only [hws, buildFrom_gen_other hn'.1, GenStore.get_set, if_true]
      · simpa [hws] using ih hn'.2 h hmem
    · simp at h

/-! ## The host's accesses (20_memory.md R62, R63) -/

/-- A register read changes only what the host and the marks hold; ERR only by BUS. -/
theorem hostReadReg_cases (off : BitVec 12) (w : Width) (s : State) :
    hostReadReg off w s = s.busError.pushResult 0 ∨
      hostReadReg off w s = s.pushResult (offsetValue s off) ∨
      (s.pend = none ∧ hostReadReg off w s = (s.pushResult (offsetValue s off)).closeWindows) := by
  unfold hostReadReg
  split
  · split
    · rename_i h
      refine .inr (.inr ⟨?_, rfl⟩)
      simpa [State.busy] using h.2
    · exact .inr (.inl rfl)
  · exact .inl rfl

/-- What a host write of a register can do. -/
theorem hostWriteReg_cases (off : BitVec 12) (w : Width) (v : Word) (s : State) :
    hostWriteReg off w v s = s.busError ∨ hostWriteReg off w v s = s ∨ hostWriteReg off w v s = accept v s ∨
      hostWriteReg off w v s = s.writeErr v ∨ hostWriteReg off w v s = { s with inBase := v } ∨
      hostWriteReg off w v s = { s with inAvail := v } ∨ hostWriteReg off w v s = { s with outBase := v } ∨
      hostWriteReg off w v s = { s with outSpace := v } := by
  unfold hostWriteReg writeOffset
  split
  · split
    · rename_i r _
      cases r <;> simp [writeReg]
    · simp
  · simp

/-- A buffer read changes only what the host and the marks hold. -/
theorem hostReadIbuf_cases (a : BitVec 32) (w : Width) (s : State) :
    hostReadIbuf a w s = s.setUnadmitted.pushResult 0 ∨
      ∃ v, hostReadIbuf a w s = (s.pushResult v).advanceDraws w.bytes := by
  unfold hostReadIbuf
  split
  · exact .inr ⟨_, rfl⟩
  · exact .inl rfl

theorem hostReadObuf_cases (a : BitVec 32) (w : Width) (s : State) :
    hostReadObuf a w s = s.setUnadmitted.pushResult 0 ∨
      (∃ v, hostReadObuf a w s = (s.pushResult v).advanceDraws w.bytes) ∨
      ∃ v, hostReadObuf a w s = (s.setHaz.pushResult v).advanceDraws w.bytes := by
  unfold hostReadObuf
  split
  · split
    · exact .inr (.inr ⟨_, rfl⟩)
    · exact .inr (.inl ⟨_, rfl⟩)
  · exact .inl rfl

/-- A buffer write stores a run inside the buffer, or changes a mark only. -/
theorem hostWriteIbuf_cases (a : BitVec 32) (w : Width) (v : Word) (s : State) :
    hostWriteIbuf a w v s = s.setUnadmitted ∨ hostWriteIbuf a w v s = s.setHaz ∨
      (a.toNat + w.bytes ≤ s.params.ibufBytes ∧
        hostWriteIbuf a w v s = { s with ibuf := writeRun a.toNat (leBytes w.bytes v) s.ibuf }) := by
  unfold hostWriteIbuf
  split
  · rename_i h
    split
    · exact .inr (.inl rfl)
    · refine .inr (.inr ⟨?_, rfl⟩)
      simp only [bufAdmitted, Bool.and_eq_true, decide_eq_true_eq] at h
      exact h.2
  · exact .inl rfl

theorem hostWriteObuf_cases (a : BitVec 32) (w : Width) (v : Word) (s : State) :
    hostWriteObuf a w v s = s.setUnadmitted ∨ hostWriteObuf a w v s = s.setHaz ∨
      (a.toNat + w.bytes ≤ s.params.obufBytes ∧
        hostWriteObuf a w v s = { s with obuf := writeRun a.toNat (leBytes w.bytes v) s.obuf }) := by
  unfold hostWriteObuf
  split
  · rename_i h
    split
    · exact .inr (.inl rfl)
    · refine .inr (.inr ⟨?_, rfl⟩)
      simp only [bufAdmitted, Bool.and_eq_true, decide_eq_true_eq] at h
      exact h.2
  · exact .inl rfl

/-- The accesses that 20_memory.md R62 and R63 do not admit are those placeAdmitted refuses. -/
theorem unadmitted_iff (p : Params) (w : Width) (pl : Place) :
    Safety.Unadmitted p w pl ↔ placeAdmitted p w pl = false := by
  cases pl <;> cases w <;> simp [Safety.Unadmitted, placeAdmitted, regAdmitted, bufAdmitted, imp_iff_not_or]

/-- What a host access ends in, under either rule: refused where the model does not admit it, else its effect. -/
theorem hostAccess_eq_next_iff {rule : AccessRule} {params : Params} {p : Place} {w : Width} {t u : State} :
    hostAccess rule params p w t = .next u ↔ (rule = .hardware ∨ placeAdmitted params w p = true) ∧ t = u := by
  cases rule <;> cases h : placeAdmitted params w p <;> simp [hostAccess, h]

/-- The hardware refuses no access. -/
@[simp] theorem hostAccess_hardware (params : Params) (p : Place) (w : Width) (t : State) :
    hostAccess .hardware params p w t = .next t := by
  simp [hostAccess]

/-- The model refuses exactly what is not admitted. -/
theorem hostAccess_model (params : Params) (p : Place) (w : Width) (t : State) :
    hostAccess .model params p w t =
      if placeAdmitted params w p then .next t else .refused (.unadmittedAccess p w) := by
  cases h : placeAdmitted params w p <;> simp [hostAccess, h]

theorem regOf_offset (r : Reg) : Reg.ofOffset r.offset = some r := by cases r <;> decide

/-- Every command, performed, answers a next state: none stops the machine. -/
theorem exec_next (i : Instr) (s : State) : ∃ t, exec i s = .next t := by
  cases i with
  | nop => simp only [exec, execNop]; split <;> exact ⟨_, rfl⟩
  | cfg cls rate => simp only [exec, execCfg]; split <;> exact ⟨_, rfl⟩
  | work eof => simp only [exec, execWork]; split <;> exact ⟨_, rfl⟩

end Sys2Proof.Machine
end

