-- ==== Sys2Proof/Laws/PerInstr.lean ====
section
/-! SUPPORT. Statements about every instruction as syntax, one lemma per constructor. RowMatch: the encoded word lies
in its row of spec/opcode_table.json (30_encoding.md R82 to R84). -/

namespace Sys2Proof.Laws.RowMatch

/-- The encoded word, under the row's mask, is the row's match value. -/
def Statement (i : Instr) : Prop := encode i &&& rowMask i = rowMatch i

theorem nop : Statement .nop := by
  unfold Statement
  decide

theorem cfg (cls : BitVec 2) (rate : BitVec 6) : Statement (.cfg cls rate) := by
  unfold Statement
  revert cls rate
  decide

theorem work (eof : Bool) : Statement (.work eof) := by
  unfold Statement
  revert eof
  decide

end Sys2Proof.Laws.RowMatch
end

