-- ==== Sys2Proof/Laws/Work.lean ====
section
/-! SUPPORT. What a frame of WORK, and all its frames, change: lengths, the fields they leave, and the bytes they
store (44_streaming.md R182 to R184). -/

namespace Sys2Proof.Machine

/-! ## Lengths -/

@[simp] theorem parityRun_length {r : Nat} (m : Nat) (sr : BitVec r) : (parityRun m sr).1.length = m := by
  induction m generalizing sr with
  | zero => rfl
  | succ m ih => simp [parityRun, ih]

@[simp] theorem parityOf_length {r : Nat} (g : BitVec r) (us : List Bool) : (parityOf g us).length = r := by
  simp [parityOf]

@[simp] theorem encodeFrame_length {r : Nat} (g : BitVec r) (us : List Bool) :
    (encodeFrame g us).length = us.length + r := by
  simp [encodeFrame]

@[simp] theorem codewordBytes_length {r : Nat} (g : BitVec r) (syms : List Byte) :
    (codewordBytes g syms).length = syms.length + r := by
  simp [codewordBytes]

@[simp] theorem frameSymbols_length (s : State) (c : Code) (o : WorkOps) (f : Nat) :
    (frameSymbols s c o f).length = c.k.toNat := by
  simp [frameSymbols]

/-- A codeword's bytes carry the bits of ENCODE_FRAME (43_lfsr_encoder.md R156). -/
theorem codewordBytes_bits {r : Nat} (g : BitVec r) (syms : List Byte) :
    (codewordBytes g syms).map symbolBit = encodeFrame g (syms.map symbolBit) := by
  have h : symbolBit ∘ parityByte = id := by funext b; cases b <;> decide
  simp [codewordBytes, encodeFrame, h]

/-! ## The chunking arithmetic (44_streaming.md R193) -/

theorem mul_frameCount_le_avail (c : Code) (o : WorkOps) : c.k.toNat * frameCount c o ≤ o.inAvail.toNat :=
  le_trans (Nat.mul_le_mul_left _ (Nat.min_le_left _ _)) (Nat.mul_div_le _ _)

theorem mul_frameCount_le_space (c : Code) (o : WorkOps) : c.n.toNat * frameCount c o ≤ o.outSpace.toNat :=
  le_trans (Nat.mul_le_mul_left _ (Nat.min_le_right _ _)) (Nat.mul_div_le _ _)

/-! ## The fields -/

/-- What all the frames together can change: OBUF, SR, ERR by SYM, and the draw counter. -/
theorem workFrames_eq (c : Code) (o : WorkOps) (s : State) :
    workFrames c o s =
      { s with
        obuf := (workFrames c o s).obuf
        sr := (workFrames c o s).sr
        err := (workFrames c o s).err
        draws := s.draws + c.k.toNat * frameCount c o } := by
  have h := forLoop_invariant (P := fun i t =>
      t = { s with obuf := t.obuf, sr := t.sr, err := t.err, draws := s.draws + c.k.toNat * i })
    (f := workFrame c o) (s := s) (frameCount c o) (by simp) (by
      intro i t _ ht
      generalize hu : workFrame c o i t = u
      have hu' : u = { t with obuf := u.obuf, sr := u.sr, err := u.err, draws := t.draws + c.k.toNat } := by
        subst hu; rfl
      rw [hu', ht]
      simp [Nat.mul_add, Nat.add_assoc])
  exact h

/-- ERR after the frames is ERR before, with SYM possibly raised. -/
theorem workFrames_err (c : Code) (o : WorkOps) (s : State) :
    (workFrames c o s).err = s.err ∨ (workFrames c o s).err = s.err ||| errMask .sym := by
  refine forLoop_invariant (P := fun _ t => t.err = s.err ∨ t.err = s.err ||| errMask .sym)
    (f := workFrame c o) (s := s) (frameCount c o) (.inl rfl) ?_
  intro i t _ ht
  simp only [workFrame]
  split
  · right
    rcases ht with ht | ht <;> rw [ht]
    rw [BitVec.or_assoc, BitVec.or_self]
  · exact ht

/-- The frames keep OBUF's canonical form. -/
theorem workFrames_obuf_wf {c : Code} {o : WorkOps} {s : State} (h : memWf s.obuf) :
    memWf (workFrames c o s).obuf :=
  forLoop_invariant (P := fun _ t => memWf t.obuf) (f := workFrame c o) (s := s) (frameCount c o) h
    fun _ _ _ ht => writeRun_wf ht

/-- A frame stores n bytes, for a configuration with k ≤ n. -/
theorem frame_length {c : Code} (hk : c.k.toNat ≤ c.n.toNat) (s : State) (o : WorkOps) (f : Nat) :
    (codewordBytes (frameGen s c) (frameSymbols s c o f)).length = c.n.toNat := by
  simp; omega

/-- The frames of a WORK in range keep OBUF's addresses below its size. -/
theorem workFrames_obuf_below {c : Code} {o : WorkOps} {s : State} (hk : c.k.toNat ≤ c.n.toNat)
    (hr : o.outBase.toNat + o.outSpace.toNat ≤ s.params.obufBytes) (h : memBelow s.params.obufBytes s.obuf) :
    memBelow s.params.obufBytes (workFrames c o s).obuf := by
  refine forLoop_invariant (P := fun _ t => memBelow s.params.obufBytes t.obuf) (f := workFrame c o) (s := s)
    (frameCount c o) h ?_
  intro i t hi ht
  refine writeRun_below ht ?_
  rw [frame_length hk]
  have h1 := mul_frameCount_le_space c o
  have h2 : c.n.toNat * (i + 1) ≤ c.n.toNat * frameCount c o := Nat.mul_le_mul_left _ hi
  have h3 : c.n.toNat * (i + 1) = i * c.n.toNat + c.n.toNat := by ring
  simp only [frameOutAddr]
  omega

/-- A WORK, performed: what it can change, in one equation. -/
theorem State.work_eq (s : State) (c : Code) (o : WorkOps) :
    s.work c o =
      { s with
        obuf := (workFrames c o s).obuf
        sr := (workFrames c o s).sr
        err := (workFrames c o s).err
        draws := s.draws + c.k.toNat * frameCount c o
        frames := BitVec.ofNat 32 (frameCount c o)
        consumed := BitVec.ofNat 32 (c.k.toNat * frameCount c o)
        produced := BitVec.ofNat 32 (c.n.toNat * frameCount c o)
        drained := drainedFlag o.eof (remainder c o)
        stall := stallFlag o.eof (remainder c o) c.k.toNat } := by
  unfold State.work
  conv_lhs => rw [workFrames_eq c o s]

end Sys2Proof.Machine
end

