-- ==== Sys2Proof/Laws/Step.lean ====
section
/-! SUPPORT. What a step, and a performed command, can do, said once; invariants are derived from these. -/

namespace Sys2Proof.Machine

/-- What performing a command can do: turn it away with one error, or its own effect. -/
theorem exec_cases {i : Instr} {s t : State} (h : exec i s = .next t) :
    (∃ e, (e = .ovr ∨ e = .nocfg ∨ e = .range) ∧ t = s.turnAway e) ∨
      (i = .nop ∧ s.mode ≠ .init ∧ t = s.clearPend) ∨
      (∃ cls rate, i = .cfg cls rate ∧ (s.mode = .idle ∨ s.mode = .active) ∧
        t = (s.configure cls rate).clearPend) ∨
      (∃ eof c, i = .work eof ∧ s.mode = .active ∧ s.code = some c ∧ inRange s.params (s.workOps eof) = true ∧
        t = (s.work c (s.workOps eof)).clearPend) := by
  cases i with
  | nop =>
    simp only [exec, execNop] at h
    split at h
    · rename_i e he
      exact .inl ⟨e, admissionError_cases he, by simpa using h.symm⟩
    · rename_i he
      rw [admissionError_nop] at he
      exact .inr (.inl ⟨rfl, by intro hm; simp [hm] at he, by simpa using h.symm⟩)
  | cfg cls rate =>
    simp only [exec, execCfg] at h
    split at h
    · rename_i e he
      exact .inl ⟨e, admissionError_cases he, by simpa using h.symm⟩
    · rename_i he
      rw [admissionError_cfg] at he
      refine .inr (.inr (.inl ⟨cls, rate, rfl, ?_, by simpa using h.symm⟩))
      cases hm : s.mode <;> simp [hm] at he ⊢
  | work eof =>
    simp only [exec, execWork] at h
    split at h
    · rename_i e he
      exact .inl ⟨e, admissionError_cases he, by simpa using h.symm⟩
    · exact .inl ⟨.nocfg, .inr (.inl rfl), by simpa using h.symm⟩
    · rename_i c he hc
      rw [admissionError_work] at he
      refine .inr (.inr (.inr ⟨eof, c, rfl, ?_, hc, ?_, by simpa using h.symm⟩))
      · cases hm : s.mode <;> simp [hm] at he ⊢
      · by_contra hr
        simp only [hr] at he
        split at he
        · simp at he
        · split at he <;> simp at he

/-- What a step can do. -/
theorem step_cases {s t : State} (h : step s = .next t) :
    (s.turn = .reset ∧ t = s.popTurn.applyReset) ∨
      (∃ p, s.turn = .engine ∧ s.pend = some p ∧ exec p.instr s.popTurn = .next t) ∨
      (s.turn = .engine ∧ s.pend = none ∧ s.mode = .init ∧ t = build s.popTurn) ∨
      (s.turn = .engine ∧ s.pend = none ∧ s.mode ≠ .init ∧ t = s.popTurn) ∨
      (s.turn = .host ∧ s.hostOps = [] ∧ t = s.popTurn) ∨
      (∃ p w, s.turn = .host ∧ placeAdmitted s.params w p = true ∧ t = hostRead p w s.popTurn.popOp) ∨
      (∃ p w v, s.turn = .host ∧ placeAdmitted s.params w p = true ∧ t = hostWrite p w v s.popTurn.popOp) ∨
      (∃ done, s.turn = .host ∧ t = pollStatus done s.popTurn) := by
  unfold step at h
  cases ht : s.turn with
  | reset => simp only [ht] at h; exact .inl ⟨rfl, by simpa using h.symm⟩
  | engine =>
    simp only [ht, engineStep] at h
    split at h
    · rename_i p hp
      exact .inr (.inl ⟨p, rfl, hp, h⟩)
    · rename_i hp
      split at h
      · rename_i hm
        exact .inr (.inr (.inl ⟨rfl, hp, hm, by simpa using h.symm⟩))
      · rename_i hm
        exact .inr (.inr (.inr (.inl ⟨rfl, hp, hm, by simpa using h.symm⟩)))
  | host =>
    simp only [ht, hostStep, hostMove] at h
    refine .inr (.inr (.inr (.inr ?_)))
    split at h
    · rename_i hn
      exact .inl ⟨rfl, hn, by simpa using h.symm⟩
    · split at h
      · obtain ⟨ha, rfl⟩ := hostAccess_eq_next_iff.1 h
        exact .inr (.inl ⟨_, _, rfl, by simpa using ha, rfl⟩)
      · simp at h
    · split at h
      · obtain ⟨ha, rfl⟩ := hostAccess_eq_next_iff.1 h
        exact .inr (.inr (.inl ⟨_, _, _, rfl, by simpa using ha, rfl⟩))
      · simp at h
    · exact .inr (.inr (.inr ⟨_, rfl, by simpa using h.symm⟩))
    · exact .inr (.inr (.inr ⟨_, rfl, by simpa using h.symm⟩))

/-- A program's run from a start has at most one end (30_encoding.md R97). -/
theorem endOfRun_unique {program : List HostOp} {start s t : State} {m n : Nat}
    (hs : Safety.EndOfRun program start m s) (ht : Safety.EndOfRun program start n t) : m = n ∧ s = t := by
  obtain h | rfl | h := Nat.lt_trichotomy m n
  · exact absurd hs.done (ht.first m h s hs.run)
  · exact ⟨rfl, Host.Outcome.next.inj (hs.run.symm.trans ht.run)⟩
  · exact absurd ht.done (hs.first n h t ht.run)

/-- What the model's host does, the hardware's host does. -/
theorem hostMove_hardware {s t : State} (h : hostMove .model s = .next t) : hostMove .hardware s = .next t := by
  unfold hostMove at h ⊢
  rcases hops : s.hostOps with _ | ⟨op, ops⟩
  · simpa only [hops] using h
  cases op with
  | read tg w =>
    cases hl : locate s.params tg <;> simp_all [hostAccess_eq_next_iff]
  | write tg w v =>
    cases hl : locate s.params tg <;> simp_all [hostAccess_eq_next_iff]
  | poll => simpa only [hops] using h
  | waitInit => simpa only [hops] using h

/-- A step of the model is a step of the hardware. -/
theorem hardwareStep_of_step {s t : State} (h : step s = .next t) : hardwareStep s = .next t := by
  unfold hardwareStep
  cases ht : s.turn with
  | reset => exact h
  | engine => exact h
  | host => exact hostMove_hardware (by simpa only [step, ht, hostStep] using h)

end Sys2Proof.Machine
end

