-- ==== Sys2Proof/Tests/Slice0.lean ====
section
/-! SUPPORT. Tests of the model, with expected results from the spec's vectors (95_test_vectors.md) and examples, and
for every statement with hypotheses a witness that meets them. -/

open Sys2Proof Sys2Proof.Machine Sys2Proof.Safety

namespace Sys2Proof.Tests

/-! ## Well-formedness: an ill-formed term for each check -/

theorem test_wf_factor : factorWf [true, false, true] = true ∧ factorWf [] = false ∧ factorWf [true, false] = false := by
  decide

theorem test_wf_factor_list_reference : factorListWf .n12 normalFactors = true ∧
    factorListWf .n10 (normalFactors.take 10) = true ∧ factorListWf .n8 (normalFactors.take 8) = true ∧
    factorListWf .s12 shortFactors = true := by decide

/-- Too few factors, too many, a factor with a trailing zero, and a wrong degree sum. -/
theorem test_wf_factor_list_refuses :
    factorListWf .n8 (normalFactors.take 7) = false ∧ factorListWf .n12 (normalFactors ++ [[true]]) = false ∧
      factorListWf .n8 (normalFactors.take 7 ++ [[true, false]]) = false ∧
      factorListWf .n10 (normalFactors.take 8) = false := by decide

/-- R126 (a): n not above R_f; (b): class 3; (c): an unassigned code and the two placeholders. -/
theorem test_wf_entry_refuses :
    (configEntry .normal .r1_2 32400 .n12).wf = true ∧ (configEntry .normal .r1_2 192 .n12).wf = false ∧
      (configEntry .reserved .r1_2 32400 .n12).wf = false ∧ (configEntry .normal .r7_8 32400 .n12).wf = false ∧
      (configEntry .normal .rOther 32400 .n12).wf = false ∧
      ConfigEntry.wf { cls := 0, rate := 51, n := 32400, fam := .n12 } = false := by decide

theorem test_wf_table_refuses_a_repeated_pair :
    configTableWf [configEntry .normal .r1_2 32400 .n12, configEntry .normal .r1_2 43200 .n10] = false := by decide

/-- 20_memory.md R62, R63 and 95_test_vectors.md M-6. -/
theorem test_admitted :
    regAdmitted 0x008 .word = true ∧ regAdmitted 0x008 .byte = false ∧ regAdmitted 0x009 .word = false ∧
      bufAdmitted 16 13 .byte = true ∧ bufAdmitted 16 1 .word = false ∧ bufAdmitted 16 12 .word = true ∧
      bufAdmitted 16 16 .byte = false ∧ bufAdmitted 14 12 .word = false := by decide

/-- The instruction check accepts every instruction: the types leave no ill-formed one (30_encoding.md R91). -/
theorem test_wf_instr : Instr.wf .nop = true ∧ (∀ c r, Instr.wf (.cfg c r) = true) ∧ ∀ e, Instr.wf (.work e) = true :=
  ⟨rfl, fun _ _ => rfl, fun _ => rfl⟩

/-! ## Decode: words written out from 30_encoding.md R82 to R84 -/

theorem test_decode_nop : decode 0b00000000000000000000000000000000#32 = .instr .nop := by decide

/-- Class 2 at bits 9:8, rate 44 at bits 21:16: `CFG MEDIUM, R1_3_MEDIUM` (R94). -/
theorem test_decode_cfg : decode 0b00000000001011000000001000000001#32 = .instr (.cfg 2 44) ∧
    encode (cfgNamed .medium .r1_3_medium) = 0x002C0201#32 := by decide

theorem test_decode_work : decode 0b00000000000000000000000000000010#32 = .instr (.work false) ∧
    decode 0b00000000000000000000000100000010#32 = .instr (.work true) := by decide

theorem test_decode_illegal : decode 0x00000011#32 = .illegal .reservedBits ∧
    decode 0x00000012#32 = .illegal .reservedBits ∧ decode 0x00000401#32 = .illegal .reservedBits ∧
    decode 0x00000003#32 = .illegal .reservedOpcode ∧ decode 0x0000000F#32 = .illegal .reservedOpcode := by decide

/-- R94's examples. -/
theorem test_assemble : encode (cfgNamed .normal .r1_2) = 0x00030001#32 ∧
    encode (cfgNamed .short .r1_4) = 0x00000101#32 ∧ encode (.work true) = 0x00000102#32 := by decide

/-- R90: codes of labels in the middle and at the end of the table. -/
theorem test_rate_codes : RateLabel.code .r100_180 = 17 ∧ RateLabel.code .r154_180 = 34 ∧ RateLabel.code .r2_9_vlsnr = 41 ∧
    RateLabel.code .r1_3_vlsnr = 49 ∧ RateLabel.code .rOther = 50 := by decide

/-! ## Polynomial algebra: 95_test_vectors.md section 2.1 -/

theorem test_mul : polyMul [true, true] [true, true] = [true, false, true] ∧
    polyMul [true, true, false, false] [true, false, true] = [true, true, true, true] ∧
    polyMul [false, false] [true, true] = [] ∧ polyMul [] [true] = [] ∧
    polyMul [true] [false, true, true, false] = [false, true, true] := by decide

/-- A-6, A-7. -/
theorem test_mul_factors :
    polyMul (normalFactors.getD 0 []) (normalFactors.getD 1 []) =
        polyOfExponents [0, 1, 2, 6, 8, 13, 17, 18, 19, 20, 22, 24, 32] ∧
      polyMul (shortFactors.getD 0 []) (normalFactors.getD 0 []) =
        polyOfExponents [0, 1, 2, 3, 4, 5, 7, 10, 14, 21, 30] := by decide

/-- P-1 to P-6. -/
theorem test_pack : pack [true, true, false, false] = [0xC0000000#32] ∧
    pack (normalFactors.getD 0 []) = [0xB4008000#32] ∧ pack ((normalFactors.getD 0 []).take 16) = [0xB4000000#32] ∧
    pack (List.replicate 33 true) = [0xFFFFFFFF#32, 0x80000000#32] ∧
    pack (true :: List.replicate 32 false) = [0x80000000#32, 0#32] ∧ pack [] = [] := by decide

/-! ## The encoder: 95_test_vectors.md section 2.5 -/

/-- Toy T4, steps 0 and 1, and its parity. -/
theorem test_toy_t4 : packedView (feed (genCells 4 [0xC0000000#32]) 0#4 true) = [0xC0000000#32] ∧
    parityOf (genCells 4 [0xC0000000#32]) [true, false, true, true, false, false, true, true, true, false, false] =
      [true, false, true, false] := by decide +kernel

/-- Toy T40: the state after the ten bits, and the chain shift of step 5 before and after masking. -/
theorem test_toy_t40 :
    packedView (feedAll (genCells 40 [0xC8BF28A2#32, 0x38000000#32]) 0#40
      [true, false, false, true, false, true, true, false, true, true]) = [0x9BCC2CA8#32, 0x62000000#32] ∧
    packedShiftRight false [0xA06B4E79#32, 0x07000000#32] = [0x5035A73C#32, 0x83800000#32] ∧
    chainShift 40 [0xA06B4E79#32, 0x07000000#32] = [0x5035A73C#32, 0x83000000#32] := by decide +kernel

/-- Toy T30 (r no multiple of 32; negative vector X-1): the parity has the tap at cell r-1. -/
theorem test_toy_t30 :
    parityOf (genCells 30 [0xFD220400#32]) [true, false, false, true, false, true, true, false, true, true] =
      [false, false, true, false, true, true, true, true, false, true] ++
      [true, true, true, false, true, false, true, true, false, true] ++
      [true, false, true, false, true, true, false, true, true, false] := by decide +kernel

/-! ## A small machine -/

/-- 93_implementation_defined.md I7: the candidate medium factors, for tests only. -/
def candidateM12 : List Poly :=
  [polyOfExponents [0, 1, 15], polyOfExponents [0, 1, 5, 10, 15], polyOfExponents [0, 1, 3, 12, 15],
   polyOfExponents [0, 1, 3, 5, 7, 9, 11, 13, 15], polyOfExponents [0, 1, 2, 4, 5, 10, 15],
   polyOfExponents [0, 1, 2, 6, 7, 11, 15]] ++
  [polyOfExponents [0, 1, 2, 3, 6, 7, 15],
   polyOfExponents [0, 2, 3, 4, 5, 6, 7, 8, 9, 10, 11, 12, 13, 14, 15], polyOfExponents [0, 3, 5, 8, 9, 10, 15],
   polyOfExponents [0, 2, 3, 4, 5, 12, 15], polyOfExponents [0, 6, 7, 8, 9, 10, 11, 13, 15],
   polyOfExponents [0, 4, 5, 10, 15]]

def demoParams : Params :=
  { ibufBytes := 65536, obufBytes := 65536, maxLen := 256, regBase := 0x1000, ibufBase := 0x20000,
    obufBase := 0x40000 }

/-- A table with one short frame: n = 131 in N8, so k = 3. -/
def demoRom : Rom :=
  { factors := factorsWithMedium candidateM12, config := [{ cls := 0, rate := 0, n := 131, fam := .n8 }] }

def demoReset : State := { State.reset with rom := demoRom, params := demoParams }

def demoGen : GenStore :=
  { n12 := [0xE7AA4066, 0xEFA1E2C0, 0x9110AC3B, 0x1B34F30A, 0x388A3A21, 0xC1706472]
    n10 := [0x89A6DD1D, 0x80C48BF7, 0xC0EA1E56, 0xF8CC543F, 0xB730A806]
    n8 := [0xD4669F20, 0xAEB63F98, 0xBDE9E48E, 0xFAA4E038]
    s12 := [0xA5A0988B, 0xEBE7F14A, 0x9609C5C4, 0xB3464D96, 0x1957DB46, 0x02000000]
    m12 := [0xD8D49A1B, 0x16870F8B, 0xACDA168E, 0xC95238D1, 0xF8D68D85, 0x333CF000] }

def demoIdle : State := { demoReset with mode := .idle, gen := demoGen }

def demoCode : Code := { cls := 0, rate := 0, k := 3, n := 131, fam := .n8 }

/-- One stored frame, last symbol 1 only, and windows that hold exactly it. -/
def demoActive : State :=
  { demoIdle with
    mode := .active, code := some demoCode, ibuf := [(0, 0), (1, 0), (2, 1)], inAvail := 3, outSpace := 131 }

def demoFault : State := { demoReset with mode := .fault, err := 0b0100000 }

/-- The state a step or a command answers; the state given where it does not answer one. -/
def nextOr (s : State) (o : Host.Outcome State Fault Refusal) : State :=
  match o with
  | .next t => t
  | .fault _ => s
  | .refused _ => s

/-! ## BUILD: 95_test_vectors.md section 2.2 -/

theorem test_build_n12 : buildFamily 256 .n12 normalFactors = some demoGen.n12 := by decide +kernel
theorem test_build_n10 : buildFamily 256 .n10 (normalFactors.take 10) = some demoGen.n10 := by decide +kernel
theorem test_build_n8 : buildFamily 256 .n8 (normalFactors.take 8) = some demoGen.n8 := by decide +kernel
theorem test_build_s12 : buildFamily 256 .s12 shortFactors = some demoGen.s12 := by decide +kernel
theorem test_build_m12 : buildFamily 256 .m12 candidateM12 = some demoGen.m12 := by decide +kernel

/-- B-2, B-3, B-4, and R131 (c). -/
theorem test_build_fails : buildFamily 256 .n8 (normalFactors.take 7) = none ∧ buildFamily 256 .n12 [] = none ∧
    buildFamily 256 .s12 (shortFactors.take 11 ++ [[]]) = none ∧
    buildFamily 100 .n8 (normalFactors.take 8) = none := by decide +kernel

/-- B-3 on the machine: STATUS = 0x83. -/
theorem test_build_fault_status :
    statusWord (build { demoReset with rom := { demoRom with factors := { demoRom.factors with n12 := [] } } }) =
      0x83#32 := by decide +kernel

/-! ## Commands on the small machine -/

/-- 44_streaming.md R190's example: BUSY until completion, then STATUS 0x01. -/
theorem test_nop : statusWord (accept 0x00000000 demoIdle) = 0x09#32 ∧
    statusWord (nextOr demoReset (exec .nop (accept 0x00000000 demoIdle))) = 0x01#32 := by decide

/-- 42_generator_table.md R137's example, with the reference table. -/
theorem test_cfg_supported :
    let s := nextOr demoReset (exec (.cfg 0 3) { demoIdle with rom := { demoRom with config := referenceConfig } })
    regValue s .codeK = 0x7DD0 ∧ regValue s .codeN = 0x7E90 ∧ regValue s .codeInfo = 0xE0C0 ∧
      regValue s .status = 0x02 := by decide

/-- 95_test_vectors.md section 2.4, `CFG SHORT, R9_10`: the old configuration is discarded. -/
theorem test_cfg_unsupported :
    let s := nextOr demoReset (exec (.cfg 1 11) demoActive)
    regValue s .cfg = 0x000B0100 ∧ regValue s .status = 0x11 ∧ regValue s .codeN = 0 := by decide

/-- 44_streaming.md R185 to R187 on one whole frame with EOF. -/
theorem test_work_reports :
    let s := nextOr demoReset (exec (.work true) demoActive)
    regValue s .frames = 1 ∧ regValue s .consumed = 3 ∧ regValue s .produced = 131 ∧ regValue s .status = 0x22 := by
  decide +kernel

/-- Vector E-9 (last-one, N8; it does not depend on k): the parity region starts with hex 1C07; the symbols stand
before it. -/
theorem test_work_output :
    ((List.range 19).map fun i => memRead (nextOr demoReset (exec (.work true) demoActive)).obuf i) =
      ([0, 0, 1, 0, 0, 0, 1, 1, 1, 0, 0, 0, 0, 0, 0, 0, 1, 1, 1] : List Byte).map some := by decide +kernel

/-! ## Acceptance: 95_test_vectors.md section 2.4 -/

theorem test_accept_q1_to_q5 :
    (accept 0x00030001 demoReset).err = 0x02 ∧ (accept 0xFFFFFFFF { demoIdle with pend := some .nop }).err = 0x02 ∧
      (accept 0x00000003 demoIdle).err = 0x01 ∧ (accept 0x00000002 demoIdle).err = 0x04 ∧
      (accept 0x00000002 { demoIdle with inBase := 0xFFFF0000, inAvail := 0x00020000 }).err = 0x04 := by decide

theorem test_accept_q6_to_q10 :
    (accept 0x00030001 demoFault).err = 0x24 ∧ (accept 0x00000102 demoFault).err = 0x24 ∧
      (accept 0x00000000 demoFault).pend = some .nop ∧
      (accept 0x00000102 demoActive).pend = some (.work ⟨0, 3, 0, 131, true⟩) ∧
      (accept 0x00000002 { demoActive with inBase := 65534 }).err = 0x08 := by decide

/-- 95_test_vectors.md section 2.7, the window check with IBUF_BYTES = 65536. -/
theorem test_window_check :
    inRange demoParams ⟨62464, 3072, 0, 0, false⟩ = true ∧ inRange demoParams ⟨62465, 3072, 0, 0, false⟩ = false ∧
      inRange demoParams ⟨0xFFFF, 2, 0, 0, false⟩ = false ∧
      inRange demoParams ⟨0xFFFF0000, 0x00020000, 0, 0, false⟩ = false ∧
      inRange demoParams ⟨0, 0, 0, 0, false⟩ = true := by decide

/-- 95_test_vectors.md section 2.7, SHORT R1_4: frames, DRAINED, STALL. -/
theorem test_chunking :
    let c : Code := { cls := 1, rate := 0, k := 3072, n := 3240, fam := .s12 }
    let row := fun (ia os : Word) (eof : Bool) =>
      let o : WorkOps := ⟨0, ia, 0, os, eof⟩
      (frameCount c o, drainedFlag eof (remainder c o), stallFlag eof (remainder c o) 3072)
    row 0 0 false = (0, false, false) ∧ row 0 0 true = (0, true, false) ∧ row 3071 3240 true = (0, false, true) ∧
      row 3072 3239 true = (0, false, false) ∧ row 6149 6480 true = (2, false, true) ∧
      row 9216 6480 true = (2, false, false) ∧ row 6144 9720 true = (2, true, false) := by decide

/-! ## Host accesses: 95_test_vectors.md section 2.8 -/

/-- M-1. -/
theorem test_word_write :
    (hostWrite (.ibuf 0) .word 0x01000001 demoIdle).ibuf = [(0, 0x01), (1, 0x00), (2, 0x00), (3, 0x01)] := by decide

/-- M-2. -/
theorem test_word_read :
    (hostRead (.ibuf 0) .word { demoIdle with ibuf := [(0, 0x01), (1, 0x00), (2, 0x00), (3, 0x01)] }).results =
      [0x01000001] := by decide

/-- P5, both end states: the second command is accepted after the first one's completion, or raises OVR. -/
theorem test_race :
    (accept 0x00000101 (nextOr demoReset (exec (.cfg 0 3) (accept 0x00030001 demoIdle)))).err = 0 ∧
      (accept 0x00000101 (accept 0x00030001 demoIdle)).err = 0x02 := by decide

/-! ## A command as the first after reset -/

theorem test_first_command :
    (nextOr State.reset (step (State.reset.withFetchWord 32 0x00030001))).code =
      some { cls := 0, rate := 3, k := 32208, n := 32400, fam := .n12 } := by decide +kernel

/-- The parameters of State.reset are within 00_scope.md R10's bounds. -/
theorem test_largest_frame : (referenceConfig.map fun e => e.n.toNat - e.fam.redundancy).foldl max 0 = 58192 ∧
    (referenceConfig.map fun e => e.n.toNat).foldl max 0 = 58320 := by decide +kernel

/-! ## Witnesses: for each statement with hypotheses, a state and operands that meet them -/

theorem test_demo_gen : ∀ f, buildFamily 256 f (demoRom.factors.get f) = some (demoGen.get f) := by
  intro f
  cases f
  · exact test_build_n12
  · exact test_build_n10
  · exact test_build_n8
  · exact test_build_s12
  · exact test_build_m12

theorem witness_inv : Inv demoActive where
  activeIffCode := by decide
  faultIffTable := by decide
  code := by
    intro c hc
    obtain rfl : demoCode = c := by simpa [demoActive] using hc
    decide
  pend := by intro p hp; simp [demoActive, demoIdle, demoReset, State.reset] at hp
  reports := ⟨by decide, by decide⟩
  gen := fun _ => test_demo_gen
  memory := by decide
  table := by decide
  params := by decide
  window := by intro p hp; simp [demoActive, demoIdle, demoReset, State.reset] at hp
  flags := by decide
  bus := by decide

/-- A WORK pending in a state that meets the invariant: the hypotheses of AcceptedCommandRaisesOnlySym,
StepCompletesPendingCommand and EveryPendingCommandCompletes. -/
def demoPending : State :=
  { demoActive with
    pend := some (.work (demoActive.snapshot true)), unpolled := [.work (demoActive.snapshot true)] }

theorem witness_AcceptedCommandRaisesOnlySym :
    Inv demoPending ∧ demoPending.pend = some (.work (demoActive.snapshot true)) := by
  refine ⟨{ witness_inv with pend := ?_, window := ?_ }, rfl⟩
  · intro p hp
    obtain rfl : Pending.work (demoActive.snapshot true) = p := by simpa [demoPending] using hp
    decide
  · intro p hp
    obtain rfl : Pending.work (demoActive.snapshot true) = p := by simpa [demoPending] using hp
    decide

theorem witness_WordsAndCommandsCorrespond : Instr.wf (.cfg 3 63) = true := rfl

theorem witness_StepRunsPlacedCommand : decodeTableWord 32 0x102 = some (.work true) := by decide

theorem witness_StepCompletesPendingCommand :
    demoPending.turn = .engine ∧ demoPending.pend = some (.work (demoActive.snapshot true)) := by decide

theorem witness_StepPresentsWrittenWord :
    let s := { demoIdle with hostOps := [opWr .cmd 0x00000003] }
    s.turn = .host ∧ s.hostOps = opWr .cmd 0x00000003 :: [] := by decide

/-- One state and word for each clause; the windows are met exactly, and missed by one byte. -/
theorem witness_AcceptanceFollowsPriority :
    demoReset.mode = .init ∧ demoPending.pend ≠ none ∧ demoIdle.mode ≠ .init ∧ demoIdle.pend = none ∧
      (∀ i, 0x00000003#32 ≠ encode i) ∧ demoFault.mode = .fault ∧ Instr.cfg 0 0 ≠ .nop ∧ demoIdle.mode ≠ .active ∧
      (let s := { demoActive with inBase := 65533 }
       s.mode = .active ∧ s.inBase.toNat + s.inAvail.toNat = s.params.ibufBytes ∧
         s.outBase.toNat + s.outSpace.toNat ≤ s.params.obufBytes) ∧
      (let s := { demoActive with inBase := 65534 }
       s.mode = .active ∧ s.inBase.toNat + s.inAvail.toNat = s.params.ibufBytes + 1) := by
  refine ⟨by decide, by decide, by decide, by decide, ?_, by decide, by decide, by decide, by decide, by decide⟩
  intro i
  cases i with
  | nop => decide
  | cfg c r => revert c r; decide
  | work e => revert e; decide

theorem witness_CommandsTurnedAway :
    demoReset.mode = .init ∧ demoFault.mode = .fault ∧ Instr.work true ≠ .nop ∧ demoIdle.mode = .idle ∧
      (let s := { demoActive with outBase := 65536 - 130 }
       s.mode = .active ∧
         (s.workOps true).outBase.toNat + (s.workOps true).outSpace.toNat = s.params.obufBytes + 1) := by decide

/-- A stored symbol of value 3. -/
def demoBadSymbol : State := { demoActive with ibuf := [(0, 3), (1, 0), (2, 1)] }

theorem witness_ErrWriteAndCompletionInEitherOrder :
    ∃ t, exec (.work true) demoBadSymbol = .next t ∧ demoBadSymbol.hasErr .sym = false ∧ t.hasErr .sym = true ∧
      (0x10#32).getLsbD 4 = true :=
  ⟨nextOr demoReset (exec (.work true) demoBadSymbol), rfl, by decide, by decide +kernel, by decide⟩

theorem witness_FaultLeftOnlyByReset :
    ∃ t, step demoFault = .next t ∧ demoFault.turn ≠ .reset ∧ demoFault.mode = .fault ∧
      demoFault.hasErr .table = true :=
  ⟨_, rfl, by decide, by decide, by decide⟩

theorem witness_NopChangesOnlyPend : demoIdle.mode ≠ .init ∧ demoActive.mode ≠ .init ∧ demoFault.mode ≠ .init := by
  decide

theorem witness_CfgStoresAndResolvesItsPair :
    demoIdle.mode = .idle ∧ demoActive.mode = .active ∧
      lookupConfig demoIdle.rom.config 0 0 = some { cls := 0, rate := 0, n := 131, fam := .n8 } ∧
      lookupConfig demoIdle.rom.config 0 1 = none := by decide

theorem witness_CfgReferenceResults :
    let s := { demoIdle with rom := { demoRom with config := referenceConfig } }
    s.mode = .idle ∧ s.rom.config = referenceConfig ∧ s.err = 0 := by decide

theorem witness_ShownLengthsDifferByRedundancy : Inv demoActive ∧ demoActive.mode = .active := ⟨witness_inv, rfl⟩

/-- The same pair again after one step in which the host writes a register. -/
theorem witness_SamePairSameConfiguration :
    let s := { demoIdle with hostOps := [opWr .inBase 5] }
    ∃ t u, (s.mode = .idle ∨ s.mode = .active) ∧ exec (.cfg 0 0) s = .next t ∧ Turn.reset ∉ t.sched ∧
      Host.Core.run core 1 t = .next u :=
  ⟨_, _, by decide, rfl, by decide, rfl⟩

theorem witness_RomIsFixedAndOnlyBuildWritesGen :
    let s := { demoReset with gen := ⟨[], [], [], [], []⟩ }
    ∃ t, step s = .next t ∧ t.gen ≠ s.gen := by
  refine ⟨build { demoReset with gen := ⟨[], [], [], [], []⟩ }, rfl, ?_⟩
  decide +kernel

theorem test_demo_build_idle : (build demoReset).mode = .idle := by decide +kernel

/-- Bad: N8 with seven factors (B-2). Good: the demo tables. -/
theorem witness_BuildFailsExactlyOnInconsistency :
    DegreeDiffers .n8 (normalFactors.take 7) ∧
      ∀ f, ¬ProductOverflows 256 (demoRom.factors.get f) ∧ ¬DegreeDiffers f (demoRom.factors.get f) ∧
        ¬WordsDiffer f (demoRom.factors.get f) := by
  unfold ProductOverflows DegreeDiffers WordsDiffer
  refine ⟨by decide +kernel, fun f => ?_⟩
  cases f <;> decide +kernel

theorem witness_GenHoldsProductOfFactors :
    (build demoReset).mode = .idle ∧ Turn.reset ∉ demoReset.sched ∧
      Host.Core.run core 0 (build demoReset) = .next (build demoReset) :=
  ⟨test_demo_build_idle, by decide, rfl⟩

theorem witness_ReferenceGeneratorWords : 193 ≤ 193 := le_refl _

theorem witness_CleanStartFollowsReset :
    demoParams.wf referenceConfig = true ∧ ∃ words, buildFamily demoParams.maxLen .m12 candidateM12 = some words :=
  ⟨by decide, _, test_build_m12⟩

theorem witness_MulCornerCases :
    (∀ x ∈ convolve [false] [true, true], x = false) ∧ (∀ x ∈ [false, false], x = false) ∧
      trim [true, true, false] ≠ [] ∧ trim [true] ≠ [] := by decide

theorem witness_PackedXorIsPositionwise : [0xC0000000#32, 1#32].length = [0x3#32, 5#32].length := rfl

theorem witness_FeedCellByCell : 0 < 4 ∧ 1 ≤ 3 ∧ 3 < 4 := by decide

theorem witness_ParityIsLinear : [true, false].length = [true, true].length := rfl

/-- The hypotheses of the WORK statements: ACTIVE, a configuration, both windows in range, k at most n. -/
theorem witness_WorkStatements :
    demoActive.mode = .active ∧ demoActive.code = some demoCode ∧
      demoActive.workOps true = demoActive.snapshot true ∧ demoCode.k.toNat ≤ demoCode.n.toNat ∧
      inRange demoActive.params (demoActive.snapshot true) = true ∧
      demoActive.inBase.toNat + demoActive.inAvail.toNat ≤ demoActive.params.ibufBytes ∧
      demoActive.outBase.toNat + demoActive.outSpace.toNat ≤ demoActive.params.obufBytes ∧
      frameCount demoCode (demoActive.snapshot true) = 1 := by decide

theorem witness_WorkOutputsCodewords :
    Inv demoActive ∧ demoActive.code = some demoCode ∧ demoActive.workOps true = demoActive.snapshot true ∧
      inRange demoActive.params (demoActive.snapshot true) = true ∧
      0 < frameCount demoCode (demoActive.snapshot true) :=
  ⟨witness_inv, by decide, by decide, by decide, by decide⟩

/-- One symbol short of a frame. -/
theorem witness_WorkWithoutWholeFrame :
    let s := { demoActive with inAvail := 2 }
    s.mode = .active ∧ s.code = some demoCode ∧ inRange s.params (s.workOps true) = true ∧
      (s.workOps true).inAvail.toNat + 1 = demoCode.k.toNat := by decide

/-- A WORK the engine takes from PEND, then the same operands latched again. -/
theorem witness_RepeatedWorkRepeatsOutput :
    let o := demoActive.snapshot true
    ∃ t u, demoPending.mode = .active ∧ demoPending.code = some demoCode ∧ demoPending.workOps true = o ∧
      demoCode.k.toNat ≤ demoCode.n.toNat ∧ inRange demoPending.params o = true ∧
      InputStored demoPending demoCode o ∧ exec (.work true) demoPending = .next t ∧
      exec (.work true) { t with pend := some (.work o) } = .next u := by
  obtain ⟨t, ht⟩ := exec_next (.work true) demoPending
  obtain ⟨u, hu⟩ := exec_next (.work true) { t with pend := some (.work (demoActive.snapshot true)) }
  refine ⟨t, u, by decide, by decide, by decide, by decide, by decide, ?_, ht, hu⟩
  intro j hj
  have hj3 : j < 3 := lt_of_lt_of_eq hj (by decide)
  match j, hj3 with
  | 0, _ => decide
  | 1, _ => decide
  | 2, _ => decide

theorem witness_WorkFrameIsTheSymbolLoop : memWf demoActive.obuf ∧ memWf [((3 : Nat), (1 : Byte)), (7, 0)] := by decide

/-- IBUF changed right after the consumed symbols. -/
theorem witness_WorkReadsOnlyConsumedInput :
    ∃ t, demoActive.code = some demoCode ∧
      (∀ j, j < demoCode.k.toNat * frameCount demoCode (demoActive.workOps true) →
        memRead [(0, 0), (1, 0), (2, 1), (3, 1)] ((demoActive.workOps true).inBase.toNat + j) =
          memRead demoActive.ibuf ((demoActive.workOps true).inBase.toNat + j)) ∧
      exec (.work true) demoActive = .next t := by
  obtain ⟨t, ht⟩ := exec_next (.work true) demoActive
  refine ⟨t, by decide, ?_, ht⟩
  intro j hj
  have hj3 : j < 3 := lt_of_lt_of_eq hj (by decide)
  match j, hj3 with
  | 0, _ => decide
  | 1, _ => decide
  | 2, _ => decide

theorem witness_CodeRegistersShowConfiguration :
    demoIdle.mode ≠ .active ∧ demoActive.mode = .active ∧ demoActive.code = some demoCode := by decide

/-- Read-only offsets at both ends, and the first and last reserved ones. -/
theorem witness_ReadOnlyAndReservedIgnoreWrites :
    let writable : List (BitVec 12) := [0x004, 0x00C, 0x020, 0x024, 0x028, 0x02C]
    (0x000#12).toNat % 4 = 0 ∧ 0x000#12 ∉ writable ∧ (0x038#12).toNat % 4 = 0 ∧ 0x038#12 ∉ writable ∧
      (0x03C#12).toNat % 4 = 0 ∧ 0x03C#12 ∉ writable ∧ 0x03C ≤ (0x03C#12).toNat ∧
      (0xFFC#12).toNat % 4 = 0 ∧ 0xFFC#12 ∉ writable := by decide

/-- A register read at a wrong offset, one at a right one, and a buffer write past the end, each the host's next
operation. -/
theorem witness_UnadmittedAccessesHaveNoEffect :
    (0x00A#12).toNat % 4 ≠ 0 ∧ (2#32).toNat % 4 ≠ 0 ∧
      demoIdle.params.ibufBytes < (65536#32).toNat + Width.byte.bytes ∧
      demoIdle.params.obufBytes < (65536#32).toNat + Width.word.bytes ∧
      (let s := { demoIdle with hostOps := [.read (.place (.reg 0x00A)) .word] }
       s.turn = .host ∧ locate s.params (.place (.reg 0x00A)) = some (.reg 0x00A) ∧
         placeAdmitted s.params .word (.reg 0x00A) = false) ∧
      (let s := { demoIdle with hostOps := [opRd .err] }
       s.turn = .host ∧ locate s.params (.place (.reg 0x00C)) = some (.reg 0x00C) ∧
         placeAdmitted s.params .word (.reg 0x00C) = true) ∧
      (let s := { demoIdle with hostOps := [.write (.place (.ibuf 65536)) .byte 1] }
       s.turn = .host ∧ placeAdmitted s.params .byte (.ibuf 65536) = false) := by decide

/-- R217: the model refuses the access; a hardware step sets BUS and reads 0. -/
theorem test_bus :
    let s := { demoIdle with hostOps := [.read (.place (.reg 0x008)) .byte] }
    step s = .refused (.unadmittedAccess (.reg 0x008) .byte) ∧
      regValue (nextOr s (hardwareStep s)) .err = 0x40#32 ∧ (nextOr s (hardwareStep s)).results = [0] := ⟨rfl, by decide⟩

/-- In the hazard window of demoPending: the bytes right after both windows, and a byte of the input window read. -/
theorem witness_BufferAccessIsLittleEndian :
    bufAdmitted demoIdle.params.ibufBytes 65532 .word = true ∧
      bufAdmitted demoIdle.params.obufBytes 65535 .byte = true ∧
      bufAdmitted demoPending.params.ibufBytes 3 .byte = true ∧ ClearOfInputs demoPending 3 1 ∧
      bufAdmitted demoPending.params.obufBytes 131 .byte = true ∧ ClearOfOutputs demoPending 131 1 ∧
      bufAdmitted demoPending.params.ibufBytes 2 .byte = true ∧
      (∀ i, i < Width.byte.bytes → memRead demoPending.ibuf (2 + i) = some ((1#32).extractLsb' (8 * i) 8)) ∧
      (∀ i, i < Width.byte.bytes →
        memRead { demoPending with obuf := [(131, 1)] }.obuf (131 + i) = some ((1#32).extractLsb' (8 * i) 8)) := by
  have h : demoPending.unpolled = [.work (demoActive.snapshot true)] := rfl
  refine ⟨by decide, by decide, by decide, ?_, by decide, ?_, by decide, ?_, ?_⟩
  · intro o x ho _ _
    obtain rfl : o = demoActive.snapshot true := by simpa [h] using ho
    have : (demoActive.snapshot true).inBase.toNat + (demoActive.snapshot true).inAvail.toNat = 3 := by decide
    omega
  · intro o x ho _ _
    obtain rfl : o = demoActive.snapshot true := by simpa [h] using ho
    have : (demoActive.snapshot true).outBase.toNat + (demoActive.snapshot true).outSpace.toNat = 131 := by decide
    omega
  · intro i hi
    obtain rfl : i = 0 := by simpa [Width.bytes] using hi
    decide
  · intro i hi
    obtain rfl : i = 0 := by simpa [Width.bytes] using hi
    decide

/-- The first and the last byte of each window, and the bytes right after them. -/
theorem witness_BreachSetsHaz :
    Pending.work (demoActive.snapshot true) ∈ demoPending.unpolled ∧
      demoActive.inBase.toNat ≤ (0#32).toNat ∧
      (2#32).toNat < demoActive.inBase.toNat + demoActive.inAvail.toNat ∧
      bufAdmitted demoPending.params.ibufBytes 0 .byte = true ∧
      bufAdmitted demoPending.params.ibufBytes 2 .byte = true ∧
      demoActive.outBase.toNat ≤ (0#32).toNat ∧
      (130#32).toNat < demoActive.outBase.toNat + demoActive.outSpace.toNat ∧
      bufAdmitted demoPending.params.obufBytes 0 .byte = true ∧
      bufAdmitted demoPending.params.obufBytes 130 .byte = true ∧
      demoActive.inBase.toNat + demoActive.inAvail.toNat ≤ (3#32).toNat ∧
      demoActive.outBase.toNat + demoActive.outSpace.toNat ≤ (131#32).toNat := by decide

/-- A host write into the input window of a completed WORK that was not polled sets HAZ; a state with HAZ set. -/
theorem witness_HazStaysUntilReset :
    (let s := { demoPending with pend := none, hostOps := [.write (.place (.ibuf 2)) .byte 1] }
     ∃ t, step s = .next t ∧ s.turn ≠ .reset ∧ s.haz = false ∧ t.haz = true) ∧
      (let s := { demoIdle with haz := true }
       ∃ t, step s = .next t ∧ s.turn ≠ .reset ∧ s.haz = true) ∧
      (0xFFC#12).toNat % 4 = 0 ∧
      (let s := { demoPending with sched := [.host], hostOps := [.poll] }
       s.turn = .host ∧ s.hostOps = .poll :: [] ∧ s.pend ≠ none) ∧
      (let s := { demoReset with sched := [.host], hostOps := [.waitInit] }
       s.turn = .host ∧ s.hostOps = .waitInit :: [] ∧ s.mode = .init) :=
  ⟨⟨_, rfl, by decide, by decide, by decide⟩, ⟨_, rfl, by decide, by decide⟩, by decide, by decide, by decide⟩

/-- The three windows in this order, and in the reverse one, with no byte between them. -/
theorem witness_PlatformWindowsReachTheirSpaces :
    let apart := fun p : Params =>
      (p.regBase + 4096 ≤ p.ibufBase ∨ p.ibufBase + p.ibufBytes ≤ p.regBase) ∧
      (p.regBase + 4096 ≤ p.obufBase ∨ p.obufBase + p.obufBytes ≤ p.regBase) ∧
      (p.ibufBase + p.ibufBytes ≤ p.obufBase ∨ p.obufBase + p.obufBytes ≤ p.ibufBase) ∧
      p.ibufBytes ≤ 2 ^ 32 ∧ p.obufBytes ≤ 2 ^ 32
    apart demoParams ∧ apart { demoParams with obufBase := 0, ibufBase := 65536, regBase := 131072 } := by decide

theorem witness_ResetInputRestoresResetState :
    State.turn { demoPending with sched := [.reset] } = .reset := by decide

theorem witness_StepKeepsInvariant : Inv demoActive ∧ ∃ t, step demoActive = .next t := ⟨witness_inv, _, rfl⟩

/-- Two host turns are given before the engine's: the command is still pending after them. -/
theorem witness_EveryPendingCommandCompletes :
    let s := { demoPending with sched := [.host, .host], hostOps := [opRd .status, .poll] }
    s.pend = some (.work (demoActive.snapshot true)) ∧ Turn.reset ∉ s.sched ∧
      ∀ op ∈ s.hostOps, opAdmitted s.params op = true := by decide

/-! ## Ends of run: 70_reset_and_hazards.md R258 -/

/-- NOP and POLL from a clean idle state end successfully, three steps later. -/
theorem test_successful_end :
    let s := { demoIdle with hostOps := opsCommandPoll .nop }
    ∃ t, SuccessfulEnd (opsCommandPoll .nop) s 3 t := by
  refine ⟨_, ⟨⟨rfl, rfl, by decide, ?_, by decide, by decide⟩, by decide, by decide, ?_, ?_, by decide⟩⟩
  · intro j hj u hu
    match j, hj with
    | 0, _ => cases hu; decide
    | 1, _ => cases hu; decide
    | 2, _ => cases hu; decide
  · intro j hj u hu
    match j, hj with
    | 0, _ => cases hu; decide
    | 1, _ => cases hu; decide
    | 2, _ => cases hu; decide
    | 3, _ => cases hu; decide
  · intro j hj u hu ht
    match j, hj with
    | 0, _ => cases hu; exact absurd ht (by decide)
    | 1, _ => cases hu; exact absurd ht (by decide)
    | 2, _ => cases hu; exact absurd ht (by decide)

/-- R97: with a reset turn after the last operation, the state the reset leaves is no end of the run. -/
theorem test_trailing_reset_is_no_end (t : State) :
    ¬EndOfRun (opsCommandPoll .nop)
      { demoIdle with hostOps := opsCommandPoll .nop, sched := [.host, .engine, .host, .reset] } 4 t :=
  fun h => h.first 3 (by decide) _ rfl (by decide)

/-- R258: a run whose only command a reset abandons before the POLL is no successful end. -/
theorem test_abandoned_command_is_no_success (t : State) :
    ¬SuccessfulEnd (opsCommandPoll .nop)
      { demoIdle with hostOps := opsCommandPoll .nop, sched := [.host, .reset, .host] } 3 t := by
  intro h
  obtain ⟨i, v, hi, hm, hv, hp⟩ := h.completed 1 (by decide) _ rfl (by decide) (by decide)
  match i, hi, hm with
  | 2, _, _ => cases hv; exact hp (by decide)
  | 3, _, _ => cases hv; exact hp (by decide)

/-- A run that was in FAULT and was then reset is no successful end, wherever it ends. -/
theorem test_reset_hides_no_fault (program : List HostOp) (m : Nat) (t : State) :
    ¬SuccessfulEnd program { demoFault with sched := [.reset] } m t :=
  fun h => (h.never 0 (Nat.zero_le m) _ rfl).1 rfl

theorem witness_ShiftRegisterIsNeverObserved : ∃ t, step { demoActive with pend := some .nop } = .next t := ⟨_, rfl⟩

end Sys2Proof.Tests
end

section
/-! PROOF. Laws the statements of 10_state.md share: registers and offsets, the error bits, what an admitted host access
and a performed command can do, and the parts of a state that each kind of step leaves alone. -/

namespace Sys2Proof.Machine

/-! ## Registers and their offsets (10_state.md R24, R25, R41) -/

/-- A register is read and written at its own offset only. -/
theorem ofOffset_eq_some_iff {off : BitVec 12} {r : Reg} : Reg.ofOffset off = some r ↔ off = r.offset := by
  constructor
  · intro h
    have hr := List.find?_some (p := fun r : Reg => decide (r.offset = off)) h
    exact (of_decide_eq_true hr).symm
  · rintro rfl
    exact regOf_offset r

theorem ofOffset_status_iff {off : BitVec 12} : Reg.ofOffset off = some .status ↔ off = 0x008 :=
  ofOffset_eq_some_iff

theorem regAdmitted_word {off : BitVec 12} (h : off.toNat % 4 = 0) : regAdmitted off .word = true := by
  simp [regAdmitted, h]

/-- An aligned 32-bit read returns the register's value; it closes the hazard windows where it is a read of STATUS with
BUSY = 0, and changes nothing else (20_memory.md R66; 70_reset_and_hazards.md R251). -/
theorem hostReadReg_word {off : BitVec 12} (h : off.toNat % 4 = 0) (s : State) :
    hostReadReg off .word s =
      { s with
        results := offsetValue s off :: s.results
        unpolled := if off = 0x008 ∧ s.pend = none then [] else s.unpolled } := by
  simp only [hostReadReg, regAdmitted_word h, if_true, ofOffset_status_iff, State.busy, Option.isSome_eq_false_iff,
    Option.isNone_iff_eq_none]
  split <;> rfl

theorem hostWriteReg_word {off : BitVec 12} (h : off.toNat % 4 = 0) (v : Word) (s : State) :
    hostWriteReg off .word v s = writeOffset off v s := by
  simp [hostWriteReg, regAdmitted_word h]

/-- A write at an offset presents a command, clears errors, or sets operand registers; at most one of these. -/
theorem writeOffset_cases (off : BitVec 12) (v : Word) (s : State) :
    writeOffset off v s = accept v s ∨ writeOffset off v s = s.writeErr v ∨
      ∃ ib ia ob os, writeOffset off v s = { s with inBase := ib, inAvail := ia, outBase := ob, outSpace := os } := by
  unfold writeOffset
  cases Reg.ofOffset off with
  | none => exact .inr (.inr ⟨_, _, _, _, rfl⟩)
  | some r =>
    cases r with
    | cmd => exact .inl rfl
    | err => exact .inr (.inl rfl)
    | _ => exact .inr (.inr ⟨_, _, _, _, rfl⟩)

/-! ## Errors (10_state.md R29; 60_exceptions.md R210, R223) -/

theorem errMask_getLsbD (e e' : ErrBit) : (errMask e).getLsbD e'.code = decide (e = e') := by
  cases e <;> cases e' <;> decide

theorem errBit_code_lt (e : ErrBit) : e.code < 7 := by cases e <;> decide

/-- Every bit of ERR[6:0] is an error's (10_state.md R29). -/
theorem exists_errBit_of_lt {i : Nat} (h : i < 7) : ∃ e : ErrBit, e.code = i := by
  interval_cases i
  exacts [⟨.illcmd, rfl⟩, ⟨.ovr, rfl⟩, ⟨.nocfg, rfl⟩, ⟨.range, rfl⟩, ⟨.sym, rfl⟩, ⟨.table, rfl⟩, ⟨.bus, rfl⟩]

@[simp] theorem raise_hasErr (s : State) (e e' : ErrBit) :
    (s.raise e).hasErr e' = (s.hasErr e' || decide (e = e')) := by
  simp [State.hasErr, errMask_getLsbD]

/-- A write to ERR clears the errors written as 1, but never TABLE. -/
theorem writeErr_hasErr (s : State) (v : Word) (e : ErrBit) :
    (s.writeErr v).hasErr e = (s.hasErr e && (decide (e = .table) || !v.getLsbD e.code)) := by
  have hv : (v.setWidth 7).getLsbD e.code = v.getLsbD e.code := by simp [errBit_code_lt]
  simp only [State.hasErr, State.writeErr_err, BitVec.getLsbD_and, BitVec.getLsbD_not, errMask_getLsbD, hv,
    errBit_code_lt]
  cases v.getLsbD e.code <;> simp [eq_comm]

/-- ERRANY: some error is set (10_state.md R28). -/
theorem errAny_iff (s : State) : s.errAny = true ↔ ∃ e, s.hasErr e = true := by
  simp only [State.errAny, decide_eq_true_eq, State.hasErr]
  constructor
  · intro h
    by_contra hn
    push Not at hn
    refine h (BitVec.eq_of_getLsbD_eq fun i hi => ?_)
    obtain ⟨e, rfl⟩ := exists_errBit_of_lt hi
    simpa using hn e
  · rintro ⟨e, he⟩ h0
    simp [h0] at he

/-- Acceptance never raises BUS: no error it names is BUS (30_encoding.md R86). -/
theorem accept_hasErr_bus (v : Word) (s : State) : (accept v s).hasErr .bus = s.hasErr .bus := by
  unfold accept
  split
  · simp
  · split
    · simp
    · split
      · rename_i ha
        rcases admissionError_cases ha with rfl | rfl | rfl <;> simp
      · rfl

/-! ## Admitted host accesses (20_memory.md R62, R63; 70_reset_and_hazards.md R251, R252) -/

/-- A breach of the hazard rule needs an open hazard window. -/
theorem unpolled_ne_nil_of_breach {s : State} {q : WorkOps → Bool} (h : s.openWorks.any q = true) :
    s.unpolled ≠ [] := by
  intro hu
  simp [State.openWorks, hu] at h

/-- An admitted read delivers a value and changes nothing else of the device; but a read of OBUF in breach sets HAZ, and
a read of STATUS with BUSY = 0 closes the hazard windows. -/
theorem hostRead_cases {p : Place} {w : Width} {s : State} (h : placeAdmitted s.params w p = true) :
    (∃ v n, hostRead p w s = (s.pushResult v).advanceDraws n) ∨
      (s.unpolled ≠ [] ∧ ∃ v n, hostRead p w s = (s.setHaz.pushResult v).advanceDraws n) ∨
      (s.pend = none ∧ hostRead p w s = (s.pushResult (statusWord s)).closeWindows) := by
  cases p with
  | reg off =>
    simp only [placeAdmitted] at h
    simp only [hostRead, hostReadReg, h, if_true]
    split
    · rename_i hs
      refine .inr (.inr ⟨by simpa [State.busy] using hs.2, ?_⟩)
      simp [offsetValue, hs.1, regValue]
    · exact .inl ⟨_, 0, rfl⟩
  | ibuf a =>
    simp only [placeAdmitted] at h
    simp only [hostRead, hostReadIbuf, h, if_true]
    exact .inl ⟨_, _, rfl⟩
  | obuf a =>
    simp only [placeAdmitted] at h
    simp only [hostRead, hostReadObuf, h, if_true]
    split
    · rename_i hb
      exact .inr (.inl ⟨unpolled_ne_nil_of_breach hb, _, _, rfl⟩)
    · exact .inl ⟨_, _, rfl⟩

/-- An admitted write presents a command, clears errors, sets operand registers, stores a run of bytes inside a buffer,
or, in breach of the hazard rule, sets HAZ. -/
theorem hostWrite_cases {p : Place} {w : Width} {s : State} (v : Word) (h : placeAdmitted s.params w p = true) :
    hostWrite p w v s = accept v s ∨ hostWrite p w v s = s.writeErr v ∨
      (∃ ib ia ob os, hostWrite p w v s = { s with inBase := ib, inAvail := ia, outBase := ob, outSpace := os }) ∨
      (s.unpolled ≠ [] ∧ hostWrite p w v s = s.setHaz) ∨
      (∃ a bytes, a + bytes.length ≤ s.params.ibufBytes ∧
        hostWrite p w v s = { s with ibuf := writeRun a bytes s.ibuf }) ∨
      (∃ a bytes, a + bytes.length ≤ s.params.obufBytes ∧
        hostWrite p w v s = { s with obuf := writeRun a bytes s.obuf }) := by
  cases p with
  | reg off =>
    simp only [placeAdmitted] at h
    simp only [hostWrite, hostWriteReg, h, if_true]
    rcases writeOffset_cases off v s with ha | he | ho
    · exact .inl ha
    · exact .inr (.inl he)
    · exact .inr (.inr (.inl ho))
  | ibuf a =>
    simp only [placeAdmitted] at h
    simp only [hostWrite, hostWriteIbuf, h, if_true]
    split
    · rename_i hb
      exact .inr (.inr (.inr (.inl ⟨unpolled_ne_nil_of_breach hb, rfl⟩)))
    · simp only [bufAdmitted, Bool.and_eq_true, decide_eq_true_eq] at h
      exact .inr (.inr (.inr (.inr (.inl ⟨_, _, by simpa using h.2, rfl⟩))))
  | obuf a =>
    simp only [placeAdmitted] at h
    simp only [hostWrite, hostWriteObuf, h, if_true]
    split
    · rename_i hb
      exact .inr (.inr (.inr (.inl ⟨unpolled_ne_nil_of_breach hb, rfl⟩)))
    · simp only [bufAdmitted, Bool.and_eq_true, decide_eq_true_eq] at h
      exact .inr (.inr (.inr (.inr (.inr ⟨_, _, by simpa using h.2, rfl⟩))))

theorem hostReadReg_status (s : State) :
    hostReadReg Reg.status.offset .word s =
      { s with
        results := statusWord s :: s.results
        unpolled := if s.pend = none then [] else s.unpolled } := by
  have hv : offsetValue s Reg.status.offset = statusWord s := by simp [offsetValue, regOf_offset, regValue]
  rw [hostReadReg_word (by decide), hv]
  simp only [show Reg.status.offset = 0x008 from rfl, true_and]

/-- POLL and WAITINIT make one admitted read of STATUS, and are done or not (30_encoding.md R96). -/
theorem pollStatus_eq (done : Bool) (s : State) :
    pollStatus done s =
      { s with
        results := statusWord s :: s.results
        hostOps := if done then s.hostOps.tail else s.hostOps
        unpolled := if s.pend = none then [] else s.unpolled } := by
  unfold pollStatus
  rw [hostReadReg_status]
  cases done <;> rfl

/-! ## What a command and BUILD can change -/

/-- A performed command ends PEND. It changes only the configuration, the reports and flags, ERR, SR, OBUF and the draw
counter beside it (42_generator_table.md R137; 44_streaming.md R184 to R190). -/
theorem exec_changes {i : Instr} {s t : State} (h : exec i s = .next t) :
    t = { s with
      pend := none, mode := t.mode, code := t.code, unsup := t.unsup, drained := t.drained, stall := t.stall,
      err := t.err, cfgClass := t.cfgClass, cfgRate := t.cfgRate, consumed := t.consumed, produced := t.produced,
      frames := t.frames, sr := t.sr, obuf := t.obuf, draws := t.draws } := by
  rcases exec_cases h with ⟨e, -, rfl⟩ | ⟨-, -, rfl⟩ | ⟨cls, rate, -, -, rfl⟩ | ⟨eof, c, -, -, -, -, rfl⟩
  · rfl
  · rfl
  · rfl
  · rw [State.work_eq]; rfl

/-- Where BUILD ends in IDLE, GEN holds every family's words (42_generator_table.md R132). -/
theorem build_idle_gen {s : State} (h : (build s).mode = .idle) (f : Family) :
    buildFamily s.params.maxLen f (s.rom.factors.get f) = some ((build s).gen.get f) :=
  buildFrom_idle_gen (by decide) h (by cases f <;> decide)

/-- BUILD changes GEN, MODE and ERR only (42_generator_table.md R130). -/
theorem build_changes (s : State) :
    build s = { s with gen := (build s).gen, mode := (build s).mode, err := (build s).err } := by
  rcases buildFrom_cases allFamilies s with ⟨g, hg⟩ | ⟨g, hg⟩ <;> simp only [build, hg]

/-- What no host access changes: all of the device but ERR, the operand registers, PEND, the buffers and the hazard
marks (20_memory.md R62, R63). -/
structure HostFrame (s t : State) : Prop where
  mode : t.mode = s.mode
  unsup : t.unsup = s.unsup
  drained : t.drained = s.drained
  stall : t.stall = s.stall
  cfgClass : t.cfgClass = s.cfgClass
  cfgRate : t.cfgRate = s.cfgRate
  consumed : t.consumed = s.consumed
  produced : t.produced = s.produced
  frames : t.frames = s.frames
  code : t.code = s.code
  sr : t.sr = s.sr
  gen : t.gen = s.gen
  rom : t.rom = s.rom
  params : t.params = s.params
  unadmitted : t.unadmitted = s.unadmitted

theorem accept_frame (v : Word) (s : State) : HostFrame s (accept v s) := by
  rcases accept_cases v s with ⟨e, -, h⟩ | ⟨i, -, -, -, -, h⟩ <;> rw [h] <;> constructor <;> rfl

theorem hostRead_frame {p : Place} {w : Width} {s : State} (h : placeAdmitted s.params w p = true) :
    HostFrame s (hostRead p w s) := by
  rcases hostRead_cases h with ⟨v, n, e⟩ | ⟨-, v, n, e⟩ | ⟨-, e⟩ <;> rw [e] <;> constructor <;> rfl

theorem hostWrite_frame {p : Place} {w : Width} {s : State} (v : Word) (h : placeAdmitted s.params w p = true) :
    HostFrame s (hostWrite p w v s) := by
  rcases hostWrite_cases v h with e | e | ⟨ib, ia, ob, os, e⟩ | ⟨-, e⟩ | ⟨a, bs, -, e⟩ | ⟨a, bs, -, e⟩ <;> rw [e]
  case inl => exact accept_frame v s
  all_goals constructor <;> rfl

theorem pollStatus_frame (done : Bool) (s : State) : HostFrame s (pollStatus done s) := by
  rw [pollStatus_eq]; constructor <;> rfl

/-- The host operation and the turn a step uses up are no part of the device. -/
theorem HostFrame.of_popped {s t : State} (h : HostFrame s.popTurn.popOp t) : HostFrame s t := { h with }

/-! ## What the agent whose turn it is can do -/

/-- A host step makes one admitted read or write, or one read of a POLL or WAITINIT, or nothing (30_encoding.md R95,
R96). -/
theorem step_host_cases {s t : State} (h : step s = .next t) (hturn : s.turn = .host) :
    (s.hostOps = [] ∧ t = s.popTurn) ∨
      (∃ p w, placeAdmitted s.params w p = true ∧ t = hostRead p w s.popTurn.popOp) ∨
      (∃ p w v, placeAdmitted s.params w p = true ∧ t = hostWrite p w v s.popTurn.popOp) ∨
      ∃ done, t = pollStatus done s.popTurn := by
  rcases step_cases h with ⟨he, -⟩ | ⟨p, he, -⟩ | ⟨he, -⟩ | ⟨he, -⟩ | ⟨-, hn⟩ | ⟨p, w, -, hr⟩ | ⟨p, w, v, -, hw⟩ |
    ⟨done, -, hp⟩
  iterate 4 simp [hturn] at he
  · exact .inl hn
  · exact .inr (.inl ⟨p, w, hr⟩)
  · exact .inr (.inr (.inl ⟨p, w, v, hw⟩))
  · exact .inr (.inr (.inr ⟨done, hp⟩))

/-- An engine step performs the pending command; with none it runs BUILD in INIT and else does nothing (10_state.md
R20). -/
theorem step_engine_cases {s t : State} (h : step s = .next t) (hturn : s.turn = .engine) :
    (∃ p, s.pend = some p ∧ exec p.instr s.popTurn = .next t) ∨
      (s.pend = none ∧ s.mode = .init ∧ t = build s.popTurn) ∨
      (s.pend = none ∧ s.mode ≠ .init ∧ t = s.popTurn) := by
  rcases step_cases h with ⟨he, -⟩ | ⟨p, -, hp⟩ | ⟨-, hb⟩ | ⟨-, hn⟩ | ⟨he, -⟩ | ⟨p, w, he, -⟩ | ⟨p, w, v, he, -⟩ |
    ⟨done, he, -⟩
  case inr.inl => exact .inl ⟨p, hp⟩
  case inr.inr.inl => exact .inr (.inl hb)
  case inr.inr.inr.inl => exact .inr (.inr hn)
  all_goals simp [hturn] at he

/-- A step of the reset input always answers the reset state (70_reset_and_hazards.md R240). -/
theorem step_reset {s : State} (hturn : s.turn = .reset) : step s = .next s.popTurn.applyReset := by
  simp [step, hturn]

theorem step_host_frame {s t : State} (h : step s = .next t) (hturn : s.turn = .host) : HostFrame s t := by
  rcases step_host_cases h hturn with ⟨-, rfl⟩ | ⟨p, w, ha, rfl⟩ | ⟨p, w, v, ha, rfl⟩ | ⟨done, rfl⟩
  · constructor <;> rfl
  · exact (hostRead_frame (s := s.popTurn.popOp) ha).of_popped
  · exact (hostWrite_frame (s := s.popTurn.popOp) v ha).of_popped
  · exact { pollStatus_frame done s.popTurn with }

end Sys2Proof.Machine
end

section
/-! PROOF. The invariant of 10_state.md R49: it holds after reset (O58), and every step keeps it (O57). -/

namespace Sys2Proof.Safety

open Sys2Proof.Machine

/-! ## What the invariant looks at -/

/-- Whether a latched command is admitted depends on MODE and the parameters only. -/
theorem admissionError_pendingOps_congr {s t : State} (hm : t.mode = s.mode) (hp : t.params = s.params) (p : Pending) :
    admissionError t p.instr (pendingOps t p) = admissionError s p.instr (pendingOps s p) := by
  cases p with
  | nop => simp only [Pending.instr, admissionError_nop, hm]
  | cfg cls rate => simp only [Pending.instr, admissionError_cfg, hm]
  | work o => simp only [Pending.instr, pendingOps, admissionError_work, hm, hp]

/-- A command that acceptance admits is admitted with the operands it is latched with. -/
theorem admissionError_pendingOf (s : State) (i : Instr) :
    admissionError s (s.pendingOf i).instr (pendingOps s (s.pendingOf i)) = admissionError s i (s.snapshot false) := by
  cases i <;> rfl

/-- The invariant does not look at UNSUP, CFG, the operand registers, SR, HAZ, the host's fields and the draw counter;
at ERR only for TABLE and BUS; at the open hazard windows only for the pending command's. -/
theorem Inv.frame {s t : State} (h : Inv s)
    (ht : t = { s with
      unsup := t.unsup, cfgClass := t.cfgClass, cfgRate := t.cfgRate, inBase := t.inBase, inAvail := t.inAvail,
      outBase := t.outBase, outSpace := t.outSpace, sr := t.sr, haz := t.haz, hostOps := t.hostOps, sched := t.sched,
      results := t.results, draws := t.draws, err := t.err, unpolled := t.unpolled })
    (htable : t.hasErr .table = s.hasErr .table) (hbus : t.hasErr .bus = s.hasErr .bus)
    (hwin : ∀ p, s.pend = some p → p ∈ t.unpolled) : Inv t := by
  have hmode : t.mode = s.mode := by rw [ht]
  have hcode : t.code = s.code := by rw [ht]
  have hpend : t.pend = s.pend := by rw [ht]
  have hparams : t.params = s.params := by rw [ht]
  exact {
    activeIffCode := by rw [hmode, hcode]; exact h.activeIffCode
    faultIffTable := by rw [hmode, htable]; exact h.faultIffTable
    code := by rw [hcode]; exact h.code
    pend := by
      intro p hp
      rw [admissionError_pendingOps_congr hmode hparams]
      exact h.pend p (hpend ▸ hp)
    reports := by rw [ht]; exact h.reports
    gen := by rw [ht]; exact h.gen
    memory := by rw [ht]; exact h.memory
    table := by rw [ht]; exact h.table
    params := by rw [ht]; exact h.params
    window := fun p hp => hwin p (hpend ▸ hp)
    flags := by rw [ht]; exact h.flags
    bus := ⟨hbus.trans h.bus.1, by rw [ht]; exact h.bus.2⟩ }

/-! ## Acceptance and the host's accesses -/

/-- Acceptance keeps the invariant: what it latches, it has admitted, and its hazard window is open (30_encoding.md R86;
70_reset_and_hazards.md R251). -/
theorem inv_accept {s : State} (h : Inv s) (v : Word) : Inv (accept v s) := by
  have hbus := accept_hasErr_bus v s
  rcases accept_cases v s with ⟨e, he, hr⟩ | ⟨i, hm, hn, -, ha, hl⟩
  · rw [hr] at hbus ⊢
    exact h.frame rfl (by simp [he]) hbus h.window
  · rw [hl]
    exact { h with
      pend := by
        intro p hp
        obtain rfl : s.pendingOf i = p := by simpa using hp
        exact (admissionError_pendingOps_congr rfl rfl _).trans ((admissionError_pendingOf s i).trans ha)
      window := by
        intro p hp
        obtain rfl : s.pendingOf i = p := by simpa using hp
        exact List.mem_cons_self }

theorem inv_writeErr {s : State} (h : Inv s) (v : Word) : Inv (s.writeErr v) :=
  h.frame rfl (by simp [writeErr_hasErr]) (by simp [writeErr_hasErr, h.bus.1]) h.window

theorem inv_hostRead {s : State} (h : Inv s) {p : Place} {w : Width} (ha : placeAdmitted s.params w p = true) :
    Inv (hostRead p w s) := by
  rcases hostRead_cases ha with ⟨v, n, e⟩ | ⟨-, v, n, e⟩ | ⟨hp, e⟩ <;> rw [e]
  · exact h.frame rfl rfl rfl h.window
  · exact h.frame rfl rfl rfl h.window
  · exact h.frame rfl rfl rfl (by simp [hp])

/-- An admitted write keeps the invariant: the bytes it stores lie inside the buffer (20_memory.md R63, R65). -/
theorem inv_hostWrite {s : State} (h : Inv s) {p : Place} {w : Width} (v : Word)
    (ha : placeAdmitted s.params w p = true) : Inv (hostWrite p w v s) := by
  obtain ⟨hiwf, hibelow, howf, hobelow⟩ := h.memory
  rcases hostWrite_cases v ha with e | e | ⟨ib, ia, ob, os, e⟩ | ⟨-, e⟩ | ⟨a, bs, hr, e⟩ | ⟨a, bs, hr, e⟩ <;> rw [e]
  · exact inv_accept h v
  · exact inv_writeErr h v
  · exact h.frame rfl rfl rfl h.window
  · exact h.frame rfl rfl rfl h.window
  · exact { h with
      pend := fun p hp => (admissionError_pendingOps_congr rfl rfl p).trans (h.pend p hp)
      memory := ⟨writeRun_wf hiwf, writeRun_below hibelow hr, howf, hobelow⟩ }
  · exact { h with
      pend := fun p hp => (admissionError_pendingOps_congr rfl rfl p).trans (h.pend p hp)
      memory := ⟨hiwf, hibelow, writeRun_wf howf, writeRun_below hobelow hr⟩ }

theorem inv_pollStatus {s : State} (h : Inv s) (done : Bool) : Inv (pollStatus done s) := by
  rw [pollStatus_eq]
  refine h.frame rfl rfl rfl fun p hp => ?_
  simpa [hp] using h.window p hp

/-! ## The engine -/

theorem inv_clearPend {s : State} (h : Inv s) : Inv s.clearPend :=
  { h with pend := by simp, window := by simp }

theorem inv_turnAway {s : State} (h : Inv s) {e : ErrBit} (he : e = .ovr ∨ e = .nocfg ∨ e = .range) :
    Inv (s.turnAway e) := by
  refine inv_clearPend (h.frame (t := s.raise e) rfl ?_ ?_ h.window) <;> rcases he with rfl | rfl | rfl <;> simp

/-- CFG keeps the invariant: what it resolves comes from a table that the spec admits (42_generator_table.md R126,
R137). -/
theorem inv_configure {s : State} (h : Inv s) (hm : s.mode = .idle ∨ s.mode = .active) (cls : BitVec 2)
    (rate : BitVec 6) : Inv (s.configure cls rate).clearPend where
  activeIffCode := by cases hr : resolve s.rom cls rate <;> simp [hr]
  faultIffTable := by
    have htable : s.mode ≠ .fault := by rcases hm with hm | hm <;> simp [hm]
    rw [Ne, h.faultIffTable] at htable
    change (s.configure cls rate).mode = .fault ↔ s.hasErr .table = true
    cases hr : resolve s.rom cls rate <;> simp [hr, htable]
  code := fun c hc => resolve_codeWf h.table hc
  pend := by simp
  reports := by cases hr : resolve s.rom cls rate <;> simp [reportsWf, hr]
  gen := fun _ => h.gen hm
  memory := h.memory
  table := h.table
  params := h.params
  window := by simp
  flags := by simp
  bus := h.bus

/-- The reports of a WORK fit their registers: they are bounded by the windows' lengths (44_streaming.md R185, R193). -/
theorem work_reports {c : Code} {o : WorkOps} (hk : 0 < c.k.toNat) :
    (BitVec.ofNat 32 (c.k.toNat * frameCount c o)).toNat = c.k.toNat * (BitVec.ofNat 32 (frameCount c o)).toNat ∧
      (BitVec.ofNat 32 (c.n.toNat * frameCount c o)).toNat = c.n.toNat * (BitVec.ofNat 32 (frameCount c o)).toNat := by
  have hin := mul_frameCount_le_avail c o
  have hout := mul_frameCount_le_space c o
  have hF : frameCount c o ≤ c.k.toNat * frameCount c o := Nat.le_mul_of_pos_left _ hk
  have hav := o.inAvail.isLt
  have hsp := o.outSpace.isLt
  simp only [BitVec.toNat_ofNat]
  rw [Nat.mod_eq_of_lt (by omega), Nat.mod_eq_of_lt (by omega), Nat.mod_eq_of_lt (by omega)]
  exact ⟨rfl, rfl⟩

/-- DRAINED wants no symbol left, STALL some (44_streaming.md R186, R187). -/
theorem drained_stall_exclusive (eof : Bool) (rem k : Nat) :
    ¬(drainedFlag eof rem = true ∧ stallFlag eof rem k = true) := by
  simp only [drainedFlag, stallFlag, Bool.and_eq_true, decide_eq_true_eq]
  omega

/-- ERR after the frames of a WORK differs in SYM only. -/
theorem workFrames_hasErr (c : Code) (o : WorkOps) (s : State) {e : ErrBit} (he : e ≠ .sym) :
    (workFrames c o s).hasErr e = s.hasErr e := by
  rcases workFrames_err c o s with h | h
  · simp [State.hasErr, h]
  · simp [State.hasErr, h, errMask_getLsbD, he.symm]

/-- WORK in range keeps the invariant: its frames lie inside OBUF, and its reports and flags agree (44_streaming.md R184
to R187). -/
theorem inv_work {s : State} (h : Inv s) {c : Code} {o : WorkOps} (hc : s.code = some c)
    (hr : inRange s.params o = true) : Inv (s.work c o) := by
  obtain ⟨hk, hkn, -⟩ := h.code c hc
  obtain ⟨hiwf, hibelow, howf, hobelow⟩ := h.memory
  simp only [inRange, Bool.and_eq_true, decide_eq_true_eq] at hr
  have herr : ∀ e, e ≠ .sym → (s.work c o).hasErr e = s.hasErr e := fun e he => workFrames_hasErr c o s he
  rw [State.work_eq] at herr ⊢
  exact { h with
    faultIffTable := by rw [herr .table (by decide)]; exact h.faultIffTable
    pend := fun p hp => (admissionError_pendingOps_congr rfl rfl p).trans (h.pend p hp)
    reports := by simpa [reportsWf, hc] using work_reports (o := o) hk
    memory := ⟨hiwf, hibelow, workFrames_obuf_wf howf, workFrames_obuf_below hkn.le hr.2 hobelow⟩
    flags := drained_stall_exclusive o.eof _ _
    bus := ⟨(herr .bus (by decide)).trans h.bus.1, h.bus.2⟩ }

theorem inv_exec {s t : State} (h : Inv s) {i : Instr} (he : exec i s = .next t) : Inv t := by
  rcases exec_cases he with ⟨e, hw, rfl⟩ | ⟨-, -, rfl⟩ | ⟨cls, rate, -, hm, rfl⟩ | ⟨eof, c, -, -, hc, hr, rfl⟩
  · exact inv_turnAway h hw
  · exact inv_clearPend h
  · exact inv_configure h hm cls rate
  · exact inv_clearPend (inv_work h hc hr)

/-- BUILD keeps the invariant: in IDLE every family is built, in FAULT ERR.TABLE is set (42_generator_table.md R130 to
R132). -/
theorem inv_build {s : State} (h : Inv s) (hm : s.mode = .init) (hp : s.pend = none) : Inv (build s) := by
  have hcode : s.code = none := by simpa [hm] using h.activeIffCode
  have htable : s.hasErr .table = false := by simpa [hm] using h.faultIffTable
  have hgen := build_idle_gen (s := s)
  rcases buildFrom_cases allFamilies s with ⟨g, hg⟩ | ⟨g, hg⟩
  · rw [build, hg] at hgen ⊢
    exact { h with
      activeIffCode := by simp [hcode]
      faultIffTable := by simpa [State.hasErr] using htable
      pend := by simp [hp]
      gen := fun _ => hgen rfl }
  · rw [build, hg]
    exact { h with
      activeIffCode := by simp [hcode]
      faultIffTable := by simp [State.hasErr, errMask_getLsbD]
      pend := by simp [hp]
      gen := by simp
      bus := by simpa [State.hasErr, errMask_getLsbD] using h.bus }

/-! ## Reset -/

/-- What is at its reset value meets the invariant, whatever GEN, the host's fields and the draw counter hold, with a
table and parameters that the spec admits (10_state.md R51). -/
theorem inv_of_reset {t : State}
    (ht : t = { State.reset with
      gen := t.gen, rom := t.rom, params := t.params, hostOps := t.hostOps, sched := t.sched, results := t.results,
      draws := t.draws })
    (htable : configTableWf t.rom.config = true) (hparams : t.params.wf t.rom.config = true) : Inv t where
  activeIffCode := by rw [ht]; simp [State.reset]
  faultIffTable := by rw [ht]; simp [State.reset, State.hasErr]
  code := by rw [ht]; simp [State.reset]
  pend := by rw [ht]; simp [State.reset]
  reports := by rw [ht]; exact ⟨rfl, rfl, rfl⟩
  gen := by rw [ht]; simp [State.reset]
  memory := by rw [ht]; simp [State.reset, memWf]
  table := htable
  params := hparams
  window := by rw [ht]; simp [State.reset]
  flags := by rw [ht]; simp [State.reset]
  bus := by rw [ht]; simp [State.reset, State.hasErr]

theorem referenceConfig_wf : configTableWf referenceConfig = true := by decide +kernel

/-- A whole frame of every reference entry fits buffers of 58192 and 58320 bytes (00_scope.md R10). -/
theorem referenceConfig_fits :
    ∀ e ∈ referenceConfig, e.n.toNat - e.fam.redundancy ≤ 58192 ∧ e.n.toNat ≤ 58320 := by decide +kernel

theorem platformParams_wf : platformParams.wf referenceConfig = true := by
  have hi : 58192 ≤ Config.ibufBytes := le_max_left _ _
  have ho : 58320 ≤ Config.obufBytes := le_max_left _ _
  simp only [Params.wf, platformParams, Bool.and_eq_true, List.all_eq_true]
  refine ⟨⟨⟨fun e he => ?_, decide_eq_true (le_max_left _ _)⟩, decide_eq_true ?_⟩, decide_eq_true ?_⟩
  · have hf := referenceConfig_fits e he
    exact ⟨decide_eq_true (hf.1.trans hi), decide_eq_true (hf.2.trans ho)⟩
  · exact max_le (by decide) (min_le_right _ _)
  · exact max_le (by decide) (min_le_right _ _)

/-- Settles O58: every clause is about values that R51 fixes, the reference table and the platform's parameters. -/
theorem resetMeetsInvariant : Obligations.ResetMeetsInvariant :=
  inv_of_reset rfl referenceConfig_wf platformParams_wf

/-! ## Every step -/

theorem inv_popTurn {s : State} (h : Inv s) : Inv s.popTurn := h.frame rfl rfl rfl h.window

theorem inv_popOp {s : State} (h : Inv s) : Inv s.popOp := h.frame rfl rfl rfl h.window

/-- Settles O57: by the agent whose turn it is; reset restores the invariant, and each move of the engine and of the
host keeps it. -/
theorem stepKeepsInvariant : Obligations.StepKeepsInvariant := by
  intro s t h hstep
  have hs := inv_popTurn h
  cases hturn : s.turn with
  | reset =>
    obtain rfl : s.popTurn.applyReset = t := by simpa [step_reset hturn] using hstep
    exact inv_of_reset rfl h.table h.params
  | engine =>
    rcases step_engine_cases hstep hturn with ⟨p, -, he⟩ | ⟨hp, hm, rfl⟩ | ⟨-, -, rfl⟩
    · exact inv_exec hs he
    · exact inv_build hs hm hp
    · exact hs
  | host =>
    rcases step_host_cases hstep hturn with ⟨-, rfl⟩ | ⟨p, w, ha, rfl⟩ | ⟨p, w, v, ha, rfl⟩ | ⟨done, rfl⟩
    · exact hs
    · exact inv_hostRead (inv_popOp hs) ha
    · exact inv_hostWrite (inv_popOp hs) v ha
    · exact inv_pollStatus hs done

end Sys2Proof.Safety
end

section
/-! PROOF. The registers of 10_state.md: reset values (O45), STATUS (O46), the CODE registers (O47), the operand
registers (O48), ERR (O49), what ignores writes (O50), and the word that WR CMD presents (O6). -/

namespace Sys2Proof.Machine

/-! ## A register at its own offset -/

theorem offset_aligned (r : Reg) : r.offset.toNat % 4 = 0 := by cases r <;> decide

/-- The offsets from 0x03C on are reserved (10_state.md R24). -/
theorem offset_lt (r : Reg) : r.offset.toNat < 0x03C := by cases r <;> decide

@[simp] theorem offsetValue_offset (s : State) (r : Reg) : offsetValue s r.offset = regValue s r := by
  simp [offsetValue, regOf_offset]

@[simp] theorem hostWriteReg_offset (r : Reg) (v : Word) (s : State) :
    hostWriteReg r.offset .word v s = writeReg r v s := by
  rw [hostWriteReg_word (offset_aligned r)]
  simp [writeOffset, regOf_offset]

/-- Settles O45: at reset every field a register shows is 0. -/
theorem resetRegisterValues : Obligations.ResetRegisterValues := by
  refine ⟨rfl, fun r hr => ?_⟩
  cases r with
  | id => exact absurd rfl hr
  | _ => rfl

/-! ## STATUS (10_state.md R28) -/

theorem flagAt_getLsbD {i : Nat} (hi : i < 32) (b : Bool) (j : Nat) :
    (flagAt b i).getLsbD j = (b && decide (i = j)) := by
  cases b with
  | false => simp [flagAt]
  | true =>
    simp only [flagAt, if_true, BitVec.getLsbD_shiftLeft, BitVec.getLsbD_one, Bool.true_and]
    by_cases h : i = j
    · simp [← h, hi]
    · simp [h]; omega

/-- Bit i of STATUS: the mode's code at [2:0], then one flag per bit. -/
theorem statusWord_getLsbD (s : State) (i : Nat) :
    (statusWord s).getLsbD i =
      (s.mode.code.getLsbD i || s.busy && decide (3 = i) || s.unsup && decide (4 = i) ||
        s.drained && decide (5 = i) || s.stall && decide (6 = i) || s.errAny && decide (7 = i)) := by
  have hm : (s.mode.code.setWidth 32).getLsbD i = s.mode.code.getLsbD i := by
    rw [BitVec.getLsbD_setWidth]
    by_cases hi : i < 32
    · simp [hi]
    · simp [hi, BitVec.getLsbD_of_ge s.mode.code i (by omega)]
  simp [statusWord, hm, flagAt_getLsbD]

theorem statusWord_mode (s : State) : (statusWord s).extractLsb' 0 3 = s.mode.code := by
  refine BitVec.eq_of_getLsbD_eq fun i hi => ?_
  have hne : ∀ j, 3 ≤ j → j ≠ i := by omega
  rw [BitVec.getLsbD_extractLsb', Nat.zero_add, statusWord_getLsbD]
  simp [hi, hne]

/-- The bits of STATUS beside the mode's code. -/
theorem statusWord_flag (s : State) {i : Nat} (hi : 3 ≤ i) :
    (statusWord s).getLsbD i =
      (s.busy && decide (3 = i) || s.unsup && decide (4 = i) || s.drained && decide (5 = i) ||
        s.stall && decide (6 = i) || s.errAny && decide (7 = i)) := by
  rw [statusWord_getLsbD, BitVec.getLsbD_of_ge _ _ hi, Bool.false_or]

/-- STATUS.BUSY is 1 exactly when a command is pending (10_state.md R45). -/
theorem statusWord_busy (s : State) : (statusWord s).getLsbD 3 = s.busy := by
  rw [statusWord_flag s (by decide)]; simp

/-- Settles O46: each field by its bit of STATUS. -/
theorem statusFields : Obligations.StatusFields := by
  intro s
  have hflag := fun i (hi : 3 ≤ i) => statusWord_flag s hi
  refine ⟨?_, ?_, ?_, ?_, ?_, ?_, fun i hi => ?_⟩
  · rw [statusWord_mode]
    cases s.mode <;> rfl
  · rw [statusWord_busy, State.busy, Option.isSome_iff_ne_none]
  · rw [hflag 4 (by decide)]; simp
  · rw [hflag 5 (by decide)]; simp
  · rw [hflag 6 (by decide)]; simp
  · rw [hflag 7 (by decide), ← errAny_iff]; simp
  · have hne : ∀ j, j < 8 → j ≠ i := by omega
    rw [hflag i (by omega)]
    simp [hne]

/-! ## CODE_K, CODE_N, CODE_INFO (10_state.md R31 to R33) -/

/-- Settles O47: outside ACTIVE no configuration is shown; in ACTIVE the fields of CODE_INFO are those of one of the
five families. -/
theorem codeRegistersShowConfiguration : Obligations.CodeRegistersShowConfiguration := by
  intro s
  constructor
  · intro hm
    have hs : s.shownCode = none := if_neg hm
    simp [regValue, codeKWord, codeNWord, codeInfoWord, hs]
  · intro c hm hc
    have hs : s.shownCode = some c := by rw [State.shownCode, if_pos hm, hc]
    simp only [regValue, codeKWord, codeNWord, codeInfoWord, hs, true_and]
    generalize c.fam = f
    cases f <;> decide

/-! ## Writes (10_state.md R25, R41) -/

/-- Settles O48: each of the four offsets is its register's. -/
theorem operandRegistersReadBack : Obligations.OperandRegistersReadBack := by
  intro s v
  refine ⟨hostWriteReg_offset .inBase v s, hostWriteReg_offset .inAvail v s, hostWriteReg_offset .outBase v s,
    hostWriteReg_offset .outSpace v s, ?_⟩
  have hback : ∀ r ∈ ([.inBase, .inAvail, .outBase, .outSpace] : List Reg),
      offsetValue (hostWriteReg r.offset .word v s) r.offset = v := by
    simp [writeReg, regValue]
  intro off hoff
  obtain ⟨r, hr, rfl⟩ : ∃ r ∈ ([.inBase, .inAvail, .outBase, .outSpace] : List Reg), r.offset = off :=
    List.mem_map.1 hoff
  exact hback r hr

/-- Settles O49: the write is State.writeErr, the read returns ERR with zeros above it. -/
theorem errWriteClearsWrittenOnes : Obligations.ErrWriteClearsWrittenOnes := by
  intro s v
  have hw : hostWriteReg 0x00C .word v s = s.writeErr v := hostWriteReg_offset .err v s
  have hv : offsetValue s 0x00C = s.err.setWidth 32 := offsetValue_offset s .err
  rw [hw]
  refine ⟨rfl, writeErr_hasErr s v, ?_, fun e => ?_, fun i hi => ?_⟩
  · simp [hostReadReg_word]
  · have he := errBit_code_lt e
    rw [hv, BitVec.getLsbD_setWidth, decide_eq_true (by omega), Bool.true_and, State.hasErr]
  · rw [hv, BitVec.getLsbD_setWidth, BitVec.getLsbD_of_ge s.err i hi, Bool.and_false]

/-- A register that is not CMD, ERR or an operand register ignores writes. -/
theorem writeReg_readOnly {r : Reg} (hr : r ∉ ([.cmd, .err, .inBase, .inAvail, .outBase, .outSpace] : List Reg))
    (v : Word) (s : State) : writeReg r v s = s := by
  cases r
  case cmd | err | inBase | inAvail | outBase | outSpace => simp at hr
  all_goals rfl

/-- Settles O50: an offset is reserved, or a register's; the offsets from 0x03C on are reserved. -/
theorem readOnlyAndReservedIgnoreWrites : Obligations.ReadOnlyAndReservedIgnoreWrites := by
  intro s off v ha
  rw [hostWriteReg_word ha, writeOffset, offsetValue]
  cases hr : Reg.ofOffset off with
  | none => exact ⟨fun _ => rfl, fun _ => rfl⟩
  | some r =>
    obtain rfl := ofOffset_eq_some_iff.1 hr
    have hlt := offset_lt r
    exact ⟨fun hro => writeReg_readOnly (fun hm => hro (List.mem_map_of_mem (f := Reg.offset) hm)) v s,
      fun hge => absurd hlt (by omega)⟩

/-! ## WR CMD (10_state.md R27; 30_encoding.md R95) -/

/-- On the host's turn a write of a register by its name is done, and its operation and turn are used up. -/
theorem step_opWr {s : State} {r : Reg} {v : Word} {ops : List HostOp} (hturn : s.turn = .host)
    (hops : s.hostOps = opWr r v :: ops) : step s = .next (writeReg r v s.popTurn.popOp) := by
  have hadm : placeAdmitted s.params .word (.reg r.offset) = true := regAdmitted_word (offset_aligned r)
  simp [step, hturn, hostStep, hostMove, hops, opWr, locate, hostAccess_model, hadm, hostWrite]

/-- Settles O6: CMD is the register whose write is acceptance. -/
theorem stepPresentsWrittenWord : Obligations.StepPresentsWrittenWord := by
  intro s v ops hturn hops
  rw [step_opWr hturn hops]
  simp [writeReg, State.popOp, State.popTurn, hops]

end Sys2Proof.Machine
end

section
/-! PROOF. Step lemmas of 10_state.md: what writes the ROM and GEN (O18), HAZ and the hazard windows (O54), and that
nothing depends on SR but SR (O60). -/

namespace Sys2Proof.Machine

/-! ## ROM, parameters and GEN (10_state.md R43, R44) -/

/-- Settles O18: of the agents' moves only BUILD and reset change GEN, and none the ROM or the parameters. -/
theorem romIsFixedAndOnlyBuildWritesGen : Obligations.RomIsFixedAndOnlyBuildWritesGen := by
  intro s t h
  cases hturn : s.turn with
  | reset =>
    obtain rfl : s.popTurn.applyReset = t := by simpa [step_reset hturn] using h
    exact ⟨rfl, rfl, fun _ => .inl rfl⟩
  | engine =>
    rcases step_engine_cases h hturn with ⟨p, -, he⟩ | ⟨hp, hm, rfl⟩ | ⟨-, -, rfl⟩
    · rw [exec_changes he]
      exact ⟨rfl, rfl, fun hg => absurd rfl hg⟩
    · rw [build_changes]
      exact ⟨rfl, rfl, fun _ => .inr ⟨rfl, hp, hm⟩⟩
    · exact ⟨rfl, rfl, fun hg => absurd rfl hg⟩
  | host =>
    have hf := step_host_frame h hturn
    exact ⟨hf.rom, hf.params, fun hg => absurd hf.gen hg⟩

/-! ## HAZ and the hazard windows (10_state.md R48; 70_reset_and_hazards.md R251) -/

/-- What one move of the host does to HAZ and the open hazard windows: HAZ stays set, and is set only with a window
open; the windows stay, or take in the command just accepted, or are closed by a read of STATUS with BUSY = 0. -/
def HazardMove (s t : State) : Prop :=
  (s.haz = true → t.haz = true) ∧ (s.haz = false → t.haz = true → s.unpolled ≠ []) ∧
    (t.unpolled = s.unpolled ∨ (∃ p, s.pend = none ∧ t.pend = some p ∧ t.unpolled = p :: s.unpolled) ∨
      (s.pend = none ∧ t.unpolled = [] ∧ t.results = statusWord s :: s.results))

/-- A move that leaves HAZ and the windows. -/
theorem HazardMove.of_eq {s t : State} (hh : t.haz = s.haz) (hu : t.unpolled = s.unpolled) : HazardMove s t :=
  ⟨fun h => hh.trans h, fun h0 h1 => by simp [hh, h0] at h1, .inl hu⟩

/-- A move that sets HAZ with a window open. -/
theorem HazardMove.of_breach {s t : State} (ho : s.unpolled ≠ []) (hh : t.haz = true) (hu : t.unpolled = s.unpolled) :
    HazardMove s t :=
  ⟨fun _ => hh, fun _ _ => ho, .inl hu⟩

theorem accept_hazardMove (v : Word) (s : State) : HazardMove s (accept v s) := by
  rcases accept_cases v s with ⟨e, -, h⟩ | ⟨i, -, hp, -, -, h⟩ <;> rw [h]
  · exact .of_eq rfl rfl
  · exact ⟨id, fun h0 h1 => by simp [h0] at h1, .inr (.inl ⟨_, hp, rfl, rfl⟩)⟩

theorem hostRead_hazardMove {p : Place} {w : Width} {s : State} (h : placeAdmitted s.params w p = true) :
    HazardMove s (hostRead p w s) := by
  rcases hostRead_cases h with ⟨v, n, e⟩ | ⟨ho, v, n, e⟩ | ⟨hp, e⟩ <;> rw [e]
  · exact .of_eq rfl rfl
  · exact .of_breach ho rfl rfl
  · exact ⟨id, fun h0 h1 => by simp [h0] at h1, .inr (.inr ⟨hp, rfl, rfl⟩)⟩

theorem hostWrite_hazardMove {p : Place} {w : Width} {s : State} (v : Word) (h : placeAdmitted s.params w p = true) :
    HazardMove s (hostWrite p w v s) := by
  rcases hostWrite_cases v h with e | e | ⟨ib, ia, ob, os, e⟩ | ⟨ho, e⟩ | ⟨a, bs, -, e⟩ | ⟨a, bs, -, e⟩ <;> rw [e]
  · exact accept_hazardMove v s
  · exact .of_eq rfl rfl
  · exact .of_eq rfl rfl
  · exact .of_breach ho rfl rfl
  · exact .of_eq rfl rfl
  · exact .of_eq rfl rfl

theorem pollStatus_hazardMove (done : Bool) (s : State) : HazardMove s (pollStatus done s) := by
  rw [pollStatus_eq]
  by_cases hp : s.pend = none
  · exact ⟨id, fun h0 h1 => by simp [h0] at h1, .inr (.inr ⟨hp, if_pos hp, rfl⟩)⟩
  · exact .of_eq rfl (if_neg hp)

theorem step_host_hazardMove {s t : State} (h : step s = .next t) (hturn : s.turn = .host) : HazardMove s t := by
  rcases step_host_cases h hturn with ⟨-, rfl⟩ | ⟨p, w, ha, rfl⟩ | ⟨p, w, v, ha, rfl⟩ | ⟨done, rfl⟩
  · exact .of_eq rfl rfl
  · exact hostRead_hazardMove (s := s.popTurn.popOp) ha
  · exact hostWrite_hazardMove (s := s.popTurn.popOp) v ha
  · exact pollStatus_hazardMove done s.popTurn

/-- The engine touches neither HAZ nor the windows. -/
theorem step_engine_hazard {s t : State} (h : step s = .next t) (hturn : s.turn = .engine) :
    t.haz = s.haz ∧ t.unpolled = s.unpolled := by
  rcases step_engine_cases h hturn with ⟨p, -, he⟩ | ⟨-, -, rfl⟩ | ⟨-, -, rfl⟩
  · rw [exec_changes he]; exact ⟨rfl, rfl⟩
  · rw [build_changes]; exact ⟨rfl, rfl⟩
  · exact ⟨rfl, rfl⟩

theorem statusWord_popTurn (s : State) : statusWord s.popTurn = statusWord s := rfl

/-- A POLL is done when BUSY reads 0 (30_encoding.md R96). -/
theorem step_poll {s : State} {ops : List HostOp} (hturn : s.turn = .host) (hops : s.hostOps = .poll :: ops) :
    step s = .next (pollStatus (decide (s.pend = none)) s.popTurn) := by
  have hdone : ((statusWord s.popTurn).getLsbD 3 = false) ↔ s.pend = none := by
    rw [statusWord_busy, State.busy, Option.isSome_eq_false_iff, Option.isNone_iff_eq_none, State.popTurn_pend]
  simp only [step, hturn, hostStep, hostMove, State.popTurn_hostOps, hops, hdone]

/-- A WAITINIT is done when MODE reads other than INIT (30_encoding.md R96). -/
theorem step_waitInit {s : State} {ops : List HostOp} (hturn : s.turn = .host)
    (hops : s.hostOps = .waitInit :: ops) : step s = .next (pollStatus (decide (s.mode ≠ .init)) s.popTurn) := by
  have hdone : (statusWord s.popTurn).extractLsb' 0 3 ≠ 0 ↔ s.mode ≠ .init := by
    rw [statusWord_mode, State.popTurn_mode]
    cases s.mode <;> decide
  simp only [step, hturn, hostStep, hostMove, State.popTurn_hostOps, hops, hdone]

/-- Settles O54: HAZ and the windows by the agent whose turn it is; POLL and WAITINIT by the register read they make. -/
theorem hazStaysUntilReset : Obligations.HazStaysUntilReset := by
  refine ⟨fun s t h hreset => ?_, fun s off ha => hostReadReg_word ha s,
    fun s ops hturn => ⟨fun hops => ?_, fun hops => ?_⟩⟩
  · cases hturn : s.turn with
    | reset => exact absurd hturn hreset
    | engine =>
      obtain ⟨hh, hu⟩ := step_engine_hazard h hturn
      exact ⟨fun h1 => hh.trans h1, fun h0 h1 => by simp [hh, h0] at h1, .inl hu⟩
    | host =>
      obtain ⟨hkeep, hset, hwin⟩ := step_host_hazardMove h hturn
      exact ⟨hkeep, fun h0 h1 => ⟨rfl, hset h0 h1⟩,
        hwin.imp_right (Or.imp (fun ⟨p, hp⟩ => ⟨p, rfl, hp⟩) fun hc => ⟨rfl, hc⟩)⟩
  · rw [step_poll hturn hops, pollStatus_eq, statusWord_popTurn]
    by_cases hp : s.pend = none <;> simp [hp, hops]
  · rw [step_waitInit hturn hops, pollStatus_eq, statusWord_popTurn]
    by_cases hm : s.mode = .init <;> simp [hm, hops] <;> rfl

/-! ## SR (10_state.md R42) -/

/-- The state with another content of SR. -/
def State.withSr (s : State) (x : BitVec 192) : State := { s with sr := x }

theorem admissionError_withSr (s : State) (x : BitVec 192) (i : Instr) (o : WorkOps) :
    admissionError (s.withSr x) i o = admissionError s i o := rfl

theorem snapshot_withSr (s : State) (x : BitVec 192) (eof : Bool) : (s.withSr x).snapshot eof = s.snapshot eof := rfl

/-- Acceptance does not depend on SR, and leaves it. -/
theorem accept_withSr (v : Word) (s : State) (x : BitVec 192) : accept v (s.withSr x) = (accept v s).withSr x := by
  unfold accept
  by_cases hb : s.mode = .init ∨ s.busy
  · rw [if_pos hb, if_pos (show (s.withSr x).mode = .init ∨ (s.withSr x).busy from hb)]; rfl
  · rw [if_neg hb, if_neg (show ¬((s.withSr x).mode = .init ∨ (s.withSr x).busy) from hb)]
    cases decode v with
    | illegal why => rfl
    | instr i =>
      simp only [admissionError_withSr, snapshot_withSr]
      cases admissionError s i (s.snapshot false) with
      | some e => rfl
      | none => cases i <;> rfl

theorem writeReg_withSr (r : Reg) (v : Word) (s : State) (x : BitVec 192) :
    writeReg r v (s.withSr x) = (writeReg r v s).withSr x := by
  cases r with
  | cmd => exact accept_withSr v s x
  | _ => rfl

/-- No register shows SR. -/
theorem regValue_withSr (r : Reg) (s : State) (x : BitVec 192) : regValue (s.withSr x) r = regValue s r := by
  cases r <;> rfl

theorem offsetValue_withSr (off : BitVec 12) (s : State) (x : BitVec 192) :
    offsetValue (s.withSr x) off = offsetValue s off := by
  unfold offsetValue
  cases Reg.ofOffset off with
  | none => rfl
  | some r => exact regValue_withSr r s x

theorem hostReadReg_withSr (off : BitVec 12) (w : Width) (s : State) (x : BitVec 192) :
    hostReadReg off w (s.withSr x) = (hostReadReg off w s).withSr x := by
  simp only [hostReadReg, offsetValue_withSr, apply_ite (State.withSr · x)]
  rfl

/-- A host read does not depend on SR, and leaves it. -/
theorem hostRead_withSr (p : Place) (w : Width) (s : State) (x : BitVec 192) :
    hostRead p w (s.withSr x) = (hostRead p w s).withSr x := by
  cases p with
  | reg off => exact hostReadReg_withSr off w s x
  | ibuf a =>
    simp only [hostRead, hostReadIbuf, apply_ite (State.withSr · x)]
    rfl
  | obuf a =>
    simp only [hostRead, hostReadObuf, apply_ite (State.withSr · x)]
    rfl

/-- A host write does not depend on SR, and leaves it. -/
theorem hostWrite_withSr (p : Place) (w : Width) (v : Word) (s : State) (x : BitVec 192) :
    hostWrite p w v (s.withSr x) = (hostWrite p w v s).withSr x := by
  cases p with
  | reg off =>
    have ho : writeOffset off v (s.withSr x) = (writeOffset off v s).withSr x := by
      unfold writeOffset
      cases Reg.ofOffset off with
      | none => rfl
      | some r => exact writeReg_withSr r v s x
    simp only [hostWrite, hostWriteReg, ho, apply_ite (State.withSr · x)]
    rfl
  | ibuf a =>
    simp only [hostWrite, hostWriteIbuf, apply_ite (State.withSr · x)]
    rfl
  | obuf a =>
    simp only [hostWrite, hostWriteObuf, apply_ite (State.withSr · x)]
    rfl

theorem pollStatus_withSr (done : Bool) (s : State) (x : BitVec 192) :
    pollStatus done (s.withSr x) = (pollStatus done s).withSr x := by
  rw [pollStatus_eq, pollStatus_eq]
  rfl

theorem hostAccess_withSr {rule : AccessRule} {params : Params} {p : Place} {w : Width} {u u' t : State}
    {x : BitVec 192} (h : hostAccess rule params p w u = .next t) (hu : u' = u.withSr x) :
    hostAccess rule params p w u' = .next (t.withSr x) := by
  obtain ⟨ha, rfl⟩ := hostAccess_eq_next_iff.1 h
  exact hostAccess_eq_next_iff.2 ⟨ha, hu⟩

/-- A host operation does not depend on SR, and leaves it. -/
theorem hostMove_withSr {rule : AccessRule} {s t : State} (h : hostMove rule s = .next t) (x : BitVec 192) :
    hostMove rule (s.withSr x) = .next (t.withSr x) := by
  unfold hostMove at h ⊢
  rw [show (s.withSr x).hostOps = s.hostOps from rfl, show (s.withSr x).params = s.params from rfl]
  rcases hops : s.hostOps with _ | ⟨op, ops⟩ <;> simp only [hops] at h ⊢
  · rw [Host.Outcome.next.inj h]
  cases op with
  | read tg w =>
    cases hl : locate s.params tg with
    | none => simp [hl] at h
    | some p =>
      simp only [hl] at h ⊢
      exact hostAccess_withSr h (hostRead_withSr p w s.popOp x)
  | write tg w v =>
    cases hl : locate s.params tg with
    | none => simp [hl] at h
    | some p =>
      simp only [hl] at h ⊢
      exact hostAccess_withSr h (hostWrite_withSr p w v s.popOp x)
  | poll =>
    rw [← Host.Outcome.next.inj h]
    exact congrArg _ (pollStatus_withSr _ s x)
  | waitInit =>
    rw [← Host.Outcome.next.inj h]
    exact congrArg _ (pollStatus_withSr _ s x)

/-- A frame of WORK overwrites SR: the first one leaves no trace of it (43_lfsr_encoder.md R150). -/
theorem workFrames_withSr (c : Code) (o : WorkOps) (s : State) (x : BitVec 192) :
    ∃ y, workFrames c o (s.withSr x) = (workFrames c o s).withSr y := by
  unfold workFrames
  induction frameCount c o with
  | zero => exact ⟨x, rfl⟩
  | succ m ih =>
    obtain ⟨y, hy⟩ := ih
    refine ⟨(workFrame c o m (forLoop m (workFrame c o) s)).sr, ?_⟩
    rw [forLoop, hy]
    rfl

theorem work_withSr (s : State) (c : Code) (o : WorkOps) (x : BitVec 192) :
    ∃ y, (s.withSr x).work c o = (s.work c o).withSr y := by
  obtain ⟨y, hy⟩ := workFrames_withSr c o s x
  exact ⟨y, by unfold State.work; rw [hy]; rfl⟩

/-- A command's outcome does not depend on SR, but for what it leaves in SR. -/
theorem exec_withSr (i : Instr) (s : State) (x : BitVec 192) :
    ∃ t y, exec i s = .next t ∧ exec i (s.withSr x) = .next (t.withSr y) := by
  cases i with
  | nop =>
    simp only [exec, execNop, admissionError_withSr, snapshot_withSr]
    cases admissionError s .nop (s.snapshot false) <;> exact ⟨_, x, rfl, rfl⟩
  | cfg cls rate =>
    simp only [exec, execCfg, admissionError_withSr, snapshot_withSr]
    cases admissionError s (.cfg cls rate) (s.snapshot false) <;> exact ⟨_, x, rfl, rfl⟩
  | work eof =>
    have hops : (s.withSr x).workOps eof = s.workOps eof := rfl
    have hcode : (s.withSr x).code = s.code := rfl
    simp only [exec, execWork, admissionError_withSr, hops, hcode]
    cases admissionError s (.work eof) (s.workOps eof) with
    | some e => exact ⟨_, x, rfl, rfl⟩
    | none =>
      cases s.code with
      | none => exact ⟨_, x, rfl, rfl⟩
      | some c =>
        obtain ⟨y, hy⟩ := work_withSr s c (s.workOps eof) x
        exact ⟨_, y, rfl, congrArg (fun u : State => Host.Outcome.next u.clearPend) hy⟩

/-- BUILD does not depend on SR, and leaves it. -/
theorem buildFrom_withSr (fs : List Family) (s : State) (x : BitVec 192) :
    buildFrom fs (s.withSr x) = (buildFrom fs s).withSr x := by
  induction fs generalizing s with
  | nil => rfl
  | cons f fs ih =>
    unfold buildFrom
    rw [show (s.withSr x).params = s.params from rfl, show (s.withSr x).rom = s.rom from rfl]
    cases buildFamily s.params.maxLen f (s.rom.factors.get f) with
    | none => rfl
    | some words => exact ih { s with gen := s.gen.set f words }

theorem engineStep_withSr {s t : State} (h : engineStep s = .next t) (x : BitVec 192) :
    ∃ y, engineStep (s.withSr x) = .next (t.withSr y) := by
  unfold engineStep at h ⊢
  rw [show (s.withSr x).pend = s.pend from rfl, show (s.withSr x).mode = s.mode from rfl]
  cases hp : s.pend with
  | some p =>
    simp only [hp] at h ⊢
    obtain ⟨u, y, hu, hy⟩ := exec_withSr p.instr s x
    obtain rfl := Host.Outcome.next.inj (hu.symm.trans h)
    exact ⟨y, hy⟩
  | none =>
    simp only [hp] at h ⊢
    split at h
    · rw [← Host.Outcome.next.inj h, if_pos ‹_›]
      exact ⟨x, congrArg _ (buildFrom_withSr allFamilies s x)⟩
    · rw [← Host.Outcome.next.inj h, if_neg ‹_›]
      exact ⟨x, rfl⟩

/-- Settles O60: every move but reset and a WORK leaves SR, and none reads it; reset zeroes it, and a frame of WORK
overwrites it. -/
theorem shiftRegisterIsNeverObserved : Obligations.ShiftRegisterIsNeverObserved := by
  intro s t x h
  change ∃ y, step (s.withSr x) = .next (t.withSr y)
  unfold step at h ⊢
  rw [show (s.withSr x).turn = s.turn from rfl, show (s.withSr x).popTurn = s.popTurn.withSr x from rfl]
  cases hturn : s.turn with
  | reset =>
    simp only [hturn] at h ⊢
    rw [← Host.Outcome.next.inj h]
    exact ⟨0, rfl⟩
  | engine =>
    simp only [hturn] at h ⊢
    exact engineStep_withSr h x
  | host =>
    simp only [hturn] at h ⊢
    exact ⟨x, hostMove_withSr h x⟩

end Sys2Proof.Machine
end

section
/-! PROOF. The host's access to memory (20_memory.md): platform windows (O55), what is not admitted (O51), and the bytes
an admitted buffer access stores and returns (O52). -/

namespace Sys2Proof.Machine

open Sys2Proof.Safety

/-! ## Platform windows (20_memory.md R61) -/

/-- Settles O55: an address of one window lies in no other, so windowsAt lists one place. -/
theorem platformWindowsReachTheirSpaces : Obligations.PlatformWindowsReachTheirSpaces := by
  intro p hri hro hio _ _
  refine ⟨fun off h => ?_, fun a h => ?_, fun a h => ?_⟩
  · have hi : ¬(p.ibufBase ≤ p.regBase + off ∧ p.regBase + off < p.ibufBase + p.ibufBytes) := by omega
    have ho : ¬(p.obufBase ≤ p.regBase + off ∧ p.regBase + off < p.obufBase + p.obufBytes) := by omega
    simp [locate, windowsAt, h, hi, ho]
  · have hr : ¬(p.regBase ≤ p.ibufBase + a ∧ p.ibufBase + a < p.regBase + 4096) := by omega
    have ho : ¬(p.obufBase ≤ p.ibufBase + a ∧ p.ibufBase + a < p.obufBase + p.obufBytes) := by omega
    simp [locate, windowsAt, h, hr, ho]
  · have hr : ¬(p.regBase ≤ p.obufBase + a ∧ p.obufBase + a < p.regBase + 4096) := by omega
    have hi : ¬(p.ibufBase ≤ p.obufBase + a ∧ p.obufBase + a < p.ibufBase + p.ibufBytes) := by omega
    simp [locate, windowsAt, h, hr, hi]

/-! ## Accesses that are not admitted (20_memory.md R62, R63; 60_exceptions.md R217) -/

/-- What the hardware keeps of an access that is not admitted: the mark, and for REG the error BUS. -/
def State.unadmittedEffect (s : State) : Place → State
  | .reg _ => s.busError
  | .ibuf _ => s.setUnadmitted
  | .obuf _ => s.setUnadmitted

theorem hostWrite_unadmitted {s : State} {p : Place} {w : Width} (h : Unadmitted s.params w p) (v : Word) :
    hostWrite p w v s = s.unadmittedEffect p := by
  rw [unadmitted_iff] at h
  cases p <;> exact if_neg (Bool.eq_false_iff.1 h)

theorem hostRead_unadmitted {s : State} {p : Place} {w : Width} (h : Unadmitted s.params w p) :
    hostRead p w s = (s.unadmittedEffect p).pushResult 0 := by
  rw [unadmitted_iff] at h
  cases p <;> exact if_neg (Bool.eq_false_iff.1 h)

/-- Under either rule the host's read operation ends as the access of the place it names. -/
theorem hostMove_read {rule : AccessRule} {s : State} {tg : Target} {p : Place} {w : Width} {ops : List HostOp}
    (hops : s.hostOps = .read tg w :: ops) (hl : locate s.params tg = some p) :
    hostMove rule s = hostAccess rule s.params p w (hostRead p w { s with hostOps := ops }) := by
  simp only [hostMove, hops, hl, State.popOp, List.tail_cons]

theorem hostMove_write {rule : AccessRule} {s : State} {tg : Target} {p : Place} {w : Width} {v : Word}
    {ops : List HostOp} (hops : s.hostOps = .write tg w v :: ops) (hl : locate s.params tg = some p) :
    hostMove rule s = hostAccess rule s.params p w (hostWrite p w v { s with hostOps := ops }) := by
  simp only [hostMove, hops, hl, State.popOp, List.tail_cons]

/-- A host's turn spent on one access: the model refuses it where it is not admitted, the hardware performs it. -/
theorem host_access_outcomes {s t : State} {p : Place} {w : Width} (hturn : s.turn = .host)
    (hmove : ∀ rule, hostMove rule s.popTurn = hostAccess rule s.params p w t) :
    (Unadmitted s.params w p → step s = .refused (.unadmittedAccess p w)) ∧
      (¬Unadmitted s.params w p → step s = .next t) ∧ hardwareStep s = .next t := by
  have hstep : step s = hostAccess .model s.params p w t := by simp only [step, hturn, hostStep, hmove]
  have hhw : hardwareStep s = hostAccess .hardware s.params p w t := by simp only [hardwareStep, hturn, hmove]
  rw [hstep, hhw, unadmitted_iff, hostAccess_model, hostAccess_hardware]
  cases placeAdmitted s.params w p <;> simp

/-! ## No step of the model sets BUS -/

theorem exec_hasErr_bus {i : Instr} {s t : State} (h : exec i s = .next t) : t.hasErr .bus = s.hasErr .bus := by
  rcases exec_cases h with ⟨e, he, rfl⟩ | ⟨-, -, rfl⟩ | ⟨cls, rate, -, -, rfl⟩ | ⟨eof, c, -, -, -, -, rfl⟩
  · rcases he with rfl | rfl | rfl <;> simp [State.hasErr, errMask_getLsbD]
  · rfl
  · simp [State.hasErr]
  · rw [State.work_eq]
    exact workFrames_hasErr c _ s (by decide)

theorem build_hasErr_bus (s : State) : (build s).hasErr .bus = s.hasErr .bus := by
  rcases buildFrom_cases allFamilies s with ⟨g, hg⟩ | ⟨g, hg⟩
  · rw [build, hg]; rfl
  · rw [build, hg]
    simp [State.hasErr, errMask_getLsbD]

theorem hostRead_hasErr_bus {p : Place} {w : Width} {s : State} (h : placeAdmitted s.params w p = true) :
    (hostRead p w s).hasErr .bus = s.hasErr .bus := by
  rcases hostRead_cases h with ⟨v, n, e⟩ | ⟨-, v, n, e⟩ | ⟨-, e⟩ <;> rw [e] <;> rfl

theorem hostWrite_hasErr_bus {p : Place} {w : Width} {s : State} {v : Word} (h : placeAdmitted s.params w p = true)
    (hb : (hostWrite p w v s).hasErr .bus = true) : s.hasErr .bus = true := by
  rcases hostWrite_cases v h with e | e | ⟨ib, ia, ob, os, e⟩ | ⟨-, e⟩ | ⟨a, bs, -, e⟩ | ⟨a, bs, -, e⟩ <;>
    rw [e] at hb
  case inl => exact (accept_hasErr_bus v s).symm.trans hb
  case inr.inl =>
    rw [writeErr_hasErr] at hb
    exact (Bool.and_eq_true_iff.1 hb).1
  all_goals exact hb

/-- BUS is set by no step of the model, and the mark of an unadmitted access neither (60_exceptions.md R217). -/
theorem step_keeps_admitted {s t : State} (h : step s = .next t) :
    (t.hasErr .bus = true → s.hasErr .bus = true) ∧ (t.unadmitted = true → s.unadmitted = true) := by
  cases hturn : s.turn with
  | reset =>
    obtain rfl : s.popTurn.applyReset = t := by simpa [step_reset hturn] using h
    exact ⟨fun hb => by simp [State.hasErr] at hb, fun hu => by simp at hu⟩
  | engine =>
    rcases step_engine_cases h hturn with ⟨p, -, he⟩ | ⟨-, -, rfl⟩ | ⟨-, -, rfl⟩
    · exact ⟨fun hb => (exec_hasErr_bus he).symm.trans hb, by rw [exec_changes he]; exact id⟩
    · exact ⟨fun hb => (build_hasErr_bus s.popTurn).symm.trans hb, by rw [build_changes]; exact id⟩
    · exact ⟨id, id⟩
  | host =>
    refine ⟨fun hb => ?_, fun hu => (step_host_frame h hturn).unadmitted.symm.trans hu⟩
    rcases step_host_cases h hturn with ⟨-, rfl⟩ | ⟨p, w, ha, rfl⟩ | ⟨p, w, v, ha, rfl⟩ | ⟨done, rfl⟩
    · exact hb
    · exact (hostRead_hasErr_bus (s := s.popTurn.popOp) ha).symm.trans hb
    · exact hostWrite_hasErr_bus (s := s.popTurn.popOp) ha hb
    · rw [pollStatus_eq] at hb; exact hb

/-- Settles O51: the two effects by the space of the place, the two outcomes by the access rule, and BUS by the agent
whose turn it is. -/
theorem unadmittedAccessesHaveNoEffect : Obligations.UnadmittedAccessesHaveNoEffect := by
  refine ⟨fun s w v => ⟨fun off h => ?_, fun a => ⟨fun h => ?_, fun h => ?_⟩⟩,
    fun s tg p w v ops hturn hl => ⟨fun hops => ?_, fun hops => ?_⟩, fun s t h => step_keeps_admitted h⟩
  · exact ⟨hostWrite_unadmitted (p := .reg off) h v, hostRead_unadmitted (p := .reg off) h⟩
  · exact ⟨hostWrite_unadmitted (p := .ibuf a) h v, hostRead_unadmitted (p := .ibuf a) h⟩
  · exact ⟨hostWrite_unadmitted (p := .obuf a) h v, hostRead_unadmitted (p := .obuf a) h⟩
  · exact host_access_outcomes hturn fun rule => hostMove_read (s := s.popTurn) hops hl
  · exact host_access_outcomes hturn fun rule => hostMove_write (s := s.popTurn) hops hl

/-! ## Open hazard windows (70_reset_and_hazards.md R252, R253) -/

theorem mem_openWorks {s : State} {o : WorkOps} : o ∈ s.openWorks ↔ Pending.work o ∈ s.unpolled := by
  simp only [State.openWorks, List.mem_filterMap]
  constructor
  · rintro ⟨p, hp, ho⟩
    cases p with
    | nop => simp at ho
    | cfg cls rate => simp at ho
    | work o' =>
      obtain rfl : o' = o := by simpa using ho
      exact hp
  · exact fun h => ⟨_, h, rfl⟩

/-- Two runs of addresses touch exactly where they have an address in common. -/
theorem not_touches_iff {base len a n : Nat} :
    ¬touches base len a n = true ↔ ∀ x, a ≤ x → x < a + n → ¬(base ≤ x ∧ x < base + len) := by
  simp only [touches, decide_eq_true_eq]
  constructor
  · intro h x h1 h2
    omega
  · intro h hlt
    exact h (max a base) (by omega) (by omega) (by omega)

theorem breachesInput_eq_false_iff {s : State} {a n : Nat} : breachesInput s a n = false ↔ ClearOfInputs s a n := by
  simp only [breachesInput, List.any_eq_false, mem_openWorks, not_touches_iff, ClearOfInputs]
  exact ⟨fun h o x ho => h o ho x, fun h o ho x => h o x ho⟩

theorem breachesOutput_eq_false_iff {s : State} {a n : Nat} : breachesOutput s a n = false ↔ ClearOfOutputs s a n := by
  simp only [breachesOutput, List.any_eq_false, mem_openWorks, not_touches_iff, ClearOfOutputs]
  exact ⟨fun h o x ho => h o ho x, fun h o ho x => h o x ho⟩

/-! ## Little-endian values (20_memory.md R63) -/

/-- The lowest byte first, then the bytes of the value above it. -/
theorem leBytes_succ (n : Nat) (v : Word) : leBytes (n + 1) v = v.extractLsb' 0 8 :: leBytes n (v >>> 8) := by
  rw [leBytes, List.range_succ_eq_map, List.map_cons, List.map_map]
  congr 1
  refine List.map_congr_left fun i _ => BitVec.eq_of_getLsbD_eq fun j hj => ?_
  simp [hj, Nat.mul_succ, Nat.add_comm, Nat.add_left_comm]

/-- The first byte is the word's lowest. -/
theorem leWord_cons_getLsbD (b : Byte) (bs : List Byte) {i : Nat} (hi : i < 32) :
    (leWord (b :: bs)).getLsbD i = if i < 8 then b.getLsbD i else (leWord bs).getLsbD (i - 8) := by
  rw [show leWord (b :: bs) = (leWord bs <<< 8) ||| b.setWidth 32 from rfl]
  by_cases h : i < 8
  · simp [h, hi]
  · rw [BitVec.getLsbD_or, BitVec.getLsbD_shiftLeft, BitVec.getLsbD_setWidth, BitVec.getLsbD_of_ge b i (by omega)]
    simp only [hi, h, decide_true, decide_false, Bool.not_false, Bool.true_and, Bool.and_false, Bool.or_false, if_false]

/-- The word of the low n bytes of a value has the value's low 8 n bits, and zeros above them. -/
theorem leWord_leBytes_getLsbD (n : Nat) (v : Word) {i : Nat} (hi : i < 32) :
    (leWord (leBytes n v)).getLsbD i = (decide (i < 8 * n) && v.getLsbD i) := by
  induction n generalizing v i with
  | zero => simp [leBytes, leWord]
  | succ n ih =>
    rw [leBytes_succ, leWord_cons_getLsbD _ _ hi]
    by_cases h : i < 8
    · simp [h, show i < 8 * (n + 1) by omega]
    · have hiff : i - 8 < 8 * n ↔ i < 8 * (n + 1) := by omega
      have hback : 8 + (i - 8) = i := by omega
      simp [h, ih _ (show i - 8 < 32 by omega), hiff, hback]

/-- The value of an access: a byte write carries the low byte, and a byte read is widened with zeros (20_memory.md
R63). -/
theorem leWord_leBytes (w : Width) (v : Word) :
    leWord (leBytes w.bytes v) = if w = .word then v else v &&& 0xFF#32 := by
  refine BitVec.eq_of_getLsbD_eq fun i hi => ?_
  rw [leWord_leBytes_getLsbD _ _ hi]
  cases w with
  | word => simp [Width.bytes, hi]
  | byte =>
    have hmask : ∀ j < 32, (0xFF#32).getLsbD j = decide (j < 8) := by decide
    simp [Width.bytes, hmask i hi, Bool.and_comm]

/-! ## Reads and writes of stored bytes (20_memory.md R63, R64) -/

/-- The n bytes from address a hold the value's low n bytes, little-endian. -/
def HoldsLe (mem : List Host.Cell) (a n : Nat) (v : Word) : Prop :=
  ∀ i, i < n → memRead mem (a + i) = some (v.extractLsb' (8 * i) 8)

theorem readBytes_of_holdsLe {mem : List Host.Cell} {a n : Nat} {v : Word} (h : HoldsLe mem a n v) (d : Nat) :
    readBytes mem a n d = leBytes n v :=
  List.map_congr_left fun i hi => by rw [h i (List.mem_range.1 hi), Option.getD_some]

theorem writeRun_holdsLe (mem : List Host.Cell) (a n : Nat) (v : Word) :
    HoldsLe (writeRun a (leBytes n v) mem) a n v := by
  intro i hi
  rw [memRead_writeRun_inside mem (Nat.le_add_right a i) (by simpa using hi), Nat.add_sub_cancel_left]
  simp [leBytes, hi]

theorem hostRead_ibuf_of_holdsLe {s : State} {w : Width} {a : BitVec 32} {v : Word}
    (ha : bufAdmitted s.params.ibufBytes a w = true) (h : HoldsLe s.ibuf a.toNat w.bytes v) :
    hostRead (.ibuf a) w s =
      { s with results := (if w = .word then v else v &&& 0xFF#32) :: s.results, draws := s.draws + w.bytes } := by
  rw [hostRead, hostReadIbuf, if_pos ha, readBytes_of_holdsLe h, leWord_leBytes]
  rfl

theorem hostRead_obuf_of_holdsLe {s : State} {w : Width} {a : BitVec 32} {v : Word}
    (ha : bufAdmitted s.params.obufBytes a w = true) (hc : ClearOfOutputs s a.toNat w.bytes)
    (h : HoldsLe s.obuf a.toNat w.bytes v) :
    hostRead (.obuf a) w s =
      { s with results := (if w = .word then v else v &&& 0xFF#32) :: s.results, draws := s.draws + w.bytes } := by
  rw [hostRead, hostReadObuf, if_pos ha, breachesOutput_eq_false_iff.2 hc, readBytes_of_holdsLe h, leWord_leBytes]
  rfl

theorem hostWrite_ibuf_of_clear {s : State} {w : Width} {a : BitVec 32}
    (ha : bufAdmitted s.params.ibufBytes a w = true) (hc : ClearOfInputs s a.toNat w.bytes) (v : Word) :
    hostWrite (.ibuf a) w v s = { s with ibuf := writeRun a.toNat (leBytes w.bytes v) s.ibuf } := by
  rw [hostWrite, hostWriteIbuf, if_pos ha, breachesInput_eq_false_iff.2 hc]
  rfl

theorem hostWrite_obuf_of_clear {s : State} {w : Width} {a : BitVec 32}
    (ha : bufAdmitted s.params.obufBytes a w = true) (hc : ClearOfOutputs s a.toNat w.bytes) (v : Word) :
    hostWrite (.obuf a) w v s = { s with obuf := writeRun a.toNat (leBytes w.bytes v) s.obuf } := by
  rw [hostWrite, hostWriteObuf, if_pos ha, breachesOutput_eq_false_iff.2 hc]
  rfl

/-- Settles O52: an access clear of the open windows stores a run of the value's bytes, or reads the bytes stored. -/
theorem bufferAccessIsLittleEndian : Obligations.BufferAccessIsLittleEndian := by
  intro s w a v
  refine ⟨fun ha hc => ?_, fun ha hc => ?_, fun ha h => hostRead_ibuf_of_holdsLe ha h,
    fun ha hc h => hostRead_obuf_of_holdsLe ha hc h⟩
  · have hh := writeRun_holdsLe s.ibuf a.toNat w.bytes v
    exact ⟨_, hostWrite_ibuf_of_clear ha hc v, rfl, hh,
      fun x hx => memRead_writeRun_outside _ (by simpa using hx), hostRead_ibuf_of_holdsLe ha hh⟩
  · have hh := writeRun_holdsLe s.obuf a.toNat w.bytes v
    exact ⟨_, hostWrite_obuf_of_clear ha hc v, rfl, hh,
      fun x hx => memRead_writeRun_outside _ (by simpa using hx), hostRead_obuf_of_holdsLe ha hc hh⟩

end Sys2Proof.Machine
end

section
/-! PROOF. The command words of 30_encoding.md: the decoder opcode by opcode, decode and encode agree (O1), the legal
and the illegal words (O2), the words of 95_test_vectors.md section 2.3 (O3). -/

namespace Sys2Proof

/-! ## Masks -/

/-- The test of a word under two masks at once, for a value c that lies in the second, is a test under each. -/
theorem and_or_eq_iff {w m n c : Word} (hm : c &&& m = 0#32) (hn : c &&& n = c) :
    w &&& (m ||| n) = c ↔ w &&& n = c ∧ w &&& m = 0#32 := by
  constructor
  · rintro rfl
    have absorb_right : (m ||| n) &&& n = n := by ext i hi; simp +contextual
    have absorb_left : (m ||| n) &&& m = m := by ext i hi; simp +contextual
    rw [BitVec.and_assoc, absorb_right] at hn
    rw [BitVec.and_assoc, absorb_left] at hm
    exact ⟨hn, hm⟩
  · rintro ⟨hn, hm⟩
    rw [BitVec.and_or_distrib_left, hm, hn, BitVec.zero_or]

theorem opcode_eq_iff (w : Word) (op : BitVec 4) : w.extractLsb' 0 4 = op ↔ w.toNat % 16 = op.toNat := by
  simp [← BitVec.toNat_inj]

theorem and_opcode_eq_iff (w c : Word) : w &&& 0xF#32 = c ↔ w.toNat % 16 = c.toNat := by
  rw [← BitVec.toNat_inj, BitVec.toNat_and]
  exact Eq.congr_left (Nat.and_two_pow_sub_one_eq_mod w.toNat 4)

/-! ## Decode by opcode (30_encoding.md R82 to R85) -/

/-- A row's test under its mask, where the match value is the opcode alone: OP, and the reserved bits m. -/
theorem row_test_iff (w m op : Word) (hm : op &&& m = 0#32) (hop : op &&& 0xF#32 = op) :
    w &&& (m ||| 0xF#32) = op ↔ w.toNat % 16 = op.toNat ∧ w &&& m = 0#32 := by
  rw [and_or_eq_iff hm hop, and_opcode_eq_iff]

theorem cfgRow_iff (w : Word) :
    w &&& 0xFFC0FCFF#32 = 0x00000001#32 ↔ w.toNat % 16 = 1 ∧ w &&& 0xFFC0FCF0#32 = 0#32 :=
  row_test_iff w 0xFFC0FCF0#32 0x00000001#32 rfl rfl

theorem workRow_iff (w : Word) :
    w &&& 0xFFFFFEFF#32 = 0x00000002#32 ↔ w.toNat % 16 = 2 ∧ w &&& 0xFFFFFEF0#32 = 0#32 :=
  row_test_iff w 0xFFFFFEF0#32 0x00000002#32 rfl rfl

/-- Decode with its two tests apart: OP as a number, and the bits its row reserves. -/
theorem decode_eq (w : Word) : decode w =
    if w.toNat % 16 = 0 ∧ w = 0#32 then .instr .nop
    else if w.toNat % 16 = 1 ∧ w &&& 0xFFC0FCF0#32 = 0#32 then
      .instr (.cfg (w.extractLsb' 8 2) (w.extractLsb' 16 6))
    else if w.toNat % 16 = 2 ∧ w &&& 0xFFFFFEF0#32 = 0#32 then .instr (.work (w.getLsbD 8))
    else if 3 ≤ w.toNat % 16 then .illegal .reservedOpcode
    else .illegal .reservedBits := by
  have hop : 0x3#4 ≤ w.extractLsb' 0 4 ↔ 3 ≤ w.toNat % 16 := by simp [BitVec.le_def]
  simp only [decode, opcode_eq_iff, cfgRow_iff, workRow_iff, hop, BitVec.toNat_ofNat, Nat.reducePow, Nat.reduceMod,
    and_self_left]

/-- OP = 0: the NOP word, or a reserved bit is 1. -/
theorem decode_opcode_zero {w : Word} (h : w.toNat % 16 = 0) :
    decode w = if w = 0#32 then .instr .nop else .illegal .reservedBits := by
  simp [decode_eq, h]

/-- OP = 1: a CFG word, or a reserved bit is 1. -/
theorem decode_opcode_one {w : Word} (h : w.toNat % 16 = 1) :
    decode w = if w &&& 0xFFC0FCF0#32 = 0#32 then .instr (.cfg (w.extractLsb' 8 2) (w.extractLsb' 16 6))
      else .illegal .reservedBits := by
  simp [decode_eq, h]

/-- OP = 2: a WORK word, or a reserved bit is 1. -/
theorem decode_opcode_two {w : Word} (h : w.toNat % 16 = 2) :
    decode w = if w &&& 0xFFFFFEF0#32 = 0#32 then .instr (.work (w.getLsbD 8)) else .illegal .reservedBits := by
  simp [decode_eq, h]

theorem not_command_opcode {op : Nat} (h : 3 ≤ op) : op ≠ 0 ∧ op ≠ 1 ∧ op ≠ 2 := by omega

/-- OP = 3 to 15: no command. -/
theorem decode_opcode_reserved {w : Word} (h : 3 ≤ w.toNat % 16) : decode w = .illegal .reservedOpcode := by
  simp [decode_eq, h, not_command_opcode h]

theorem opcode_cases (w : Word) :
    w.toNat % 16 = 0 ∨ w.toNat % 16 = 1 ∨ w.toNat % 16 = 2 ∨ 3 ≤ w.toNat % 16 := by omega

/-! ## Decode and encode (30_encoding.md R93, R94) -/

/-- The two fields of a CFG word are its bits that R82 neither fixes nor reserves, bit by bit. -/
theorem cfg_fields_eq (w : Word) :
    ((w.extractLsb' 16 6).setWidth 32 <<< 16) ||| ((w.extractLsb' 8 2).setWidth 32 <<< 8) = w &&& 0x003F0300#32 := by
  refine BitVec.eq_of_getLsbD_eq fun i hi => ?_
  interval_cases i <;> simp

/-- EOF is the bit of a WORK word that R83 neither fixes nor reserves. -/
theorem encode_work_eq (eof : Bool) : encode (.work eof) = 0x00000002#32 ||| if eof then 0x00000100#32 else 0#32 := by
  cases eof <;> rfl

/-- A word is what it has under a mask, and the rest. -/
theorem and_or_and_not (w m : Word) : (w &&& m) ||| (w &&& ~~~m) = w := by
  ext i hi
  cases h : m[i] <;> simp [h]

/-- A word of the CFG row is the encoding of its fields. -/
theorem encode_cfg_fields {w : Word} (h : w &&& 0xFFC0FCFF#32 = 0x00000001#32) :
    encode (.cfg (w.extractLsb' 8 2) (w.extractLsb' 16 6)) = w :=
  calc encode (.cfg (w.extractLsb' 8 2) (w.extractLsb' 16 6))
    _ = 0x00000001#32 ||| (w &&& 0x003F0300#32) := by rw [encode, BitVec.or_assoc, cfg_fields_eq]
    _ = (w &&& 0xFFC0FCFF#32) ||| (w &&& ~~~0xFFC0FCFF#32) := by rw [h]; rfl
    _ = w := and_or_and_not w _

/-- A word of the WORK row is the encoding of its EOF bit. -/
theorem encode_work_eof {w : Word} (h : w &&& 0xFFFFFEFF#32 = 0x00000002#32) :
    encode (.work (w.getLsbD 8)) = w :=
  calc encode (.work (w.getLsbD 8))
    _ = 0x00000002#32 ||| (w &&& BitVec.twoPow 32 8) := by rw [encode_work_eq, BitVec.and_twoPow]; rfl
    _ = (w &&& 0xFFFFFEFF#32) ||| (w &&& ~~~0xFFFFFEFF#32) := by rw [h]; rfl
    _ = w := and_or_and_not w _

/-- Decoding drops no bit of a legal word: each row's fields and fixed bits are all of it. -/
theorem encode_of_decode {w : Word} {i : Instr} (h : decode w = .instr i) : encode i = w := by
  simp only [decode] at h
  split_ifs at h with hnop hcfg hwork
  all_goals obtain rfl := Decoded.instr.inj h
  · exact hnop.2.symm
  · exact encode_cfg_fields hcfg.2
  · exact encode_work_eof hwork.2

@[simp] theorem decode_encode (i : Instr) : decode (encode i) = .instr i := by
  cases i with
  | nop => rfl
  | cfg cls rate => revert cls rate; decide
  | work eof => cases eof <;> rfl

theorem decode_eq_instr_iff {w : Word} {i : Instr} : decode w = .instr i ↔ w = encode i :=
  ⟨fun h => (encode_of_decode h).symm, fun h => h ▸ decode_encode i⟩

/-- Settles O1: a word of a row is the encoding of its fields, and each encoding decodes to its command. -/
theorem wordsAndCommandsCorrespond : Obligations.WordsAndCommandsCorrespond :=
  fun _ _ _ => decode_eq_instr_iff

/-! ## Legal and illegal words (30_encoding.md R85, R91) -/

/-- The CFG word as the number 0x00RR0C01 (30_encoding.md R91). -/
theorem encode_cfg_eq_ofNat (cls : BitVec 2) (rate : BitVec 6) :
    encode (.cfg cls rate) = BitVec.ofNat 32 (rate.toNat * 65536 + cls.toNat * 256 + 1) := by
  revert cls rate
  decide

theorem exists_encode_iff (w : Word) :
    (∃ i, w = encode i) ↔
      w = 0x00000000#32 ∨ (∃ r c : Nat, r < 64 ∧ c < 4 ∧ w = BitVec.ofNat 32 (r * 65536 + c * 256 + 1)) ∨
        w = 0x00000002#32 ∨ w = 0x00000102#32 := by
  constructor
  · rintro ⟨i, rfl⟩
    cases i with
    | nop => exact .inl rfl
    | cfg cls rate => exact .inr (.inl ⟨rate.toNat, cls.toNat, rate.isLt, cls.isLt, encode_cfg_eq_ofNat cls rate⟩)
    | work eof => cases eof <;> simp [encode]
  · rintro (rfl | ⟨r, c, hr, hc, rfl⟩ | rfl | rfl)
    · exact ⟨.nop, rfl⟩
    · refine ⟨.cfg (BitVec.ofNat 2 c) (BitVec.ofNat 6 r), ?_⟩
      rw [encode_cfg_eq_ofNat, BitVec.toNat_ofNat, BitVec.toNat_ofNat, Nat.mod_eq_of_lt hr, Nat.mod_eq_of_lt hc]
    · exact ⟨.work false, rfl⟩
    · exact ⟨.work true, rfl⟩

/-- Settles O2: the legal words are the encodings; which other word is illegal for what, opcode by opcode. -/
theorem legalAndIllegalWords : Obligations.LegalAndIllegalWords := by
  intro w
  refine ⟨by simp only [decode_eq_instr_iff, exists_encode_iff], ?_⟩
  rcases opcode_cases w with h | h | h | h
  · rw [decode_opcode_zero h]
    split_ifs with hw <;> simp [h, hw]
  · rw [decode_opcode_one h]
    split_ifs with hw <;> simp [h, hw]
  · rw [decode_opcode_two h]
    split_ifs with hw <;> simp [h, hw]
  · simp [decode_opcode_reserved h, h, not_command_opcode h]

/-- Settles O3, word by word. -/
theorem manualWordsDecode : Obligations.ManualWordsDecode := by
  unfold Obligations.ManualWordsDecode
  decide

end Sys2Proof
end

section
/-! PROOF. How a command reaches the engine (30_encoding.md R86, R87): acceptance (O7), the command placed with
withFetchWord (O4), and the engine's turn (O5). -/

namespace Sys2Proof.Machine

/-! ## Acceptance (30_encoding.md R86) -/

theorem accept_of_not_ready {s : State} (h : s.mode = .init ∨ s.pend ≠ none) (v : Word) :
    accept v s = s.raise .ovr :=
  if_pos (by simpa [State.busy, Option.isSome_iff_ne_none] using h)

/-- With the engine ready, a word that is no command's is ILLCMD. -/
theorem accept_of_no_command {s : State} (hm : s.mode ≠ .init) (hp : s.pend = none) {v : Word}
    (h : ∀ i, v ≠ encode i) : accept v s = s.raise .illcmd := by
  have hready : ¬ (s.mode = .init ∨ s.busy) := by simp [State.busy, hm, hp]
  rw [accept, if_neg hready]
  cases hd : decode v with
  | illegal why => rfl
  | instr i => exact absurd (decode_eq_instr_iff.1 hd) (h i)

/-- With the engine ready, a command's word is turned away with the first error of the admission checks. -/
theorem accept_of_error {s : State} (hm : s.mode ≠ .init) (hp : s.pend = none) {i : Instr} {e : ErrBit}
    (he : admissionError s i (s.snapshot false) = some e) : accept (encode i) s = s.raise e := by
  simp [accept, State.busy, hm, hp, he]

/-- With the engine ready, a command that the admission checks let pass is latched. -/
theorem accept_of_admitted {s : State} (hm : s.mode ≠ .init) (hp : s.pend = none) {i : Instr}
    (he : admissionError s i (s.snapshot false) = none) : accept (encode i) s = s.latch (s.pendingOf i) := by
  simp [accept, State.busy, hm, hp, he]

theorem inRange_snapshot_iff (s : State) (eof : Bool) :
    inRange s.params (s.snapshot eof) = true ↔
      s.inBase.toNat + s.inAvail.toNat ≤ s.params.ibufBytes ∧
        s.outBase.toNat + s.outSpace.toNat ≤ s.params.obufBytes := by
  rw [inRange, Bool.and_eq_true]
  exact and_congr decide_eq_true_iff decide_eq_true_iff

/-- Settles O7: the ready test, Decode, and the admission checks in their order. -/
theorem acceptanceFollowsPriority : Obligations.AcceptanceFollowsPriority := by
  intro s v
  refine ⟨fun h => accept_of_not_ready h v, fun hm hp => ⟨fun h => accept_of_no_command hm hp h, ?_⟩⟩
  rintro i rfl
  refine ⟨fun hf hi => ?_, ?_, ?_, fun h => ?_⟩
  · refine accept_of_error hm hp (e := .nocfg) ?_
    simp [admissionError, hf, hi]
  · rintro eof rfl ha
    refine accept_of_error hm hp (e := .nocfg) ?_
    simp [admissionError_work, hm, ha]
  · rintro eof rfl ha hr
    refine accept_of_error hm hp (e := .range) ?_
    have hout : ¬ inRange s.params (s.snapshot false) = true := by rw [inRange_snapshot_iff]; omega
    simp [admissionError_work, ha, hout]
  · have hadm : admissionError s i (s.snapshot false) = none := by
      rcases h with rfl | ⟨c, r, rfl, hf⟩ | ⟨eof, rfl, ha, hi, ho⟩
      · simp [admissionError_nop, hm]
      · simp [admissionError_cfg, hm, hf]
      · simp [admissionError_work, ha, (inRange_snapshot_iff s false).2 ⟨hi, ho⟩]
    rw [accept_of_admitted hm hp hadm]
    exact ⟨rfl, statusWord_busy _⟩

/-! ## The engine's turn (30_encoding.md R87; 10_state.md R45) -/

theorem step_engine_pending {s : State} {p : Pending} (hturn : s.turn = .engine) (hp : s.pend = some p) :
    step s = exec p.instr s.popTurn := by
  simp [step, hturn, engineStep, hp]

/-- Settles O5: the engine fetches its command from PEND. -/
theorem stepCompletesPendingCommand : Obligations.StepCompletesPendingCommand :=
  fun _ _ => step_engine_pending

@[simp] theorem pendingOf_instr (s : State) (i : Instr) : (s.pendingOf i).instr = i := by
  cases i <;> rfl

/-- Settles O4: placing latches the command and gives the engine the turn, which the step uses up. -/
theorem stepRunsPlacedCommand : Obligations.StepRunsPlacedCommand := by
  intro s nbits w i hd
  have hplace : s.withFetchWord nbits w = s.placeCommand i := by rw [State.withFetchWord, hd]
  rw [hplace, step_engine_pending (p := s.pendingOf i) rfl rfl, pendingOf_instr]
  rfl

end Sys2Proof.Machine
end

section
/-! PROOF. MUL of 41_polynomial_algebra.md R100 to R102: a coefficient vector and its polynomial, what TRIM keeps, the
product in GF(2)[x] (O23) and the corner cases (O24). -/

namespace Sys2Proof.Machine

open Sys2Proof.Safety Polynomial

/-! ## Bits as elements of GF(2), vectors as polynomials (41_polynomial_algebra.md R100) -/

@[simp] theorem gf2_false : gf2 false = 0 := rfl

@[simp] theorem gf2_true : gf2 true = 1 := rfl

@[simp] theorem gf2_xor (x y : Bool) : gf2 (x ^^ y) = gf2 x + gf2 y := by
  revert x y
  decide

@[simp] theorem gf2_and (x y : Bool) : gf2 (x && y) = gf2 x * gf2 y := by
  revert x y
  decide

@[simp] theorem gf2_eq_zero_iff {x : Bool} : gf2 x = 0 ↔ x = false := by
  cases x <;> decide

theorem gf2_injective : Function.Injective gf2 := by
  unfold Function.Injective
  decide

@[simp] theorem polyOf_nil : polyOf [] = 0 := rfl

@[simp] theorem polyOf_cons (x : Bool) (a : Poly) : polyOf (x :: a) = C (gf2 x) + X * polyOf a := by
  rw [polyOf, polyOf, List.length_cons, Finset.sum_range_succ', Finset.mul_sum, add_comm]
  congr 1
  · simp [polyCoeff]
  · refine Finset.sum_congr rfl fun i _ => ?_
    rw [polyCoeff, List.getD_cons_succ, pow_succ']
    exact mul_left_comm _ _ _

/-- A polynomial has one constant coefficient and one rest. -/
theorem C_add_X_mul_eq_iff {x y : Bool} {p q : (ZMod 2)[X]} :
    C (gf2 x) + X * p = C (gf2 y) + X * q ↔ x = y ∧ p = q := by
  constructor
  · intro h
    obtain rfl : x = y := gf2_injective (by simpa using congrArg (coeff · 0) h)
    exact ⟨rfl, mul_left_cancel₀ X_ne_zero (add_left_cancel h)⟩
  · rintro ⟨rfl, rfl⟩
    rfl

theorem C_add_X_mul_eq_zero_iff {x : Bool} {p : (ZMod 2)[X]} : C (gf2 x) + X * p = 0 ↔ x = false ∧ p = 0 := by
  simpa using C_add_X_mul_eq_iff (x := x) (y := false) (p := p) (q := 0)

/-- A vector is the zero polynomial exactly where all its coefficients are 0. -/
theorem polyOf_eq_zero_iff {a : Poly} : polyOf a = 0 ↔ ∀ x ∈ a, x = false := by
  induction a with
  | nil => simp
  | cons x a ih => rw [polyOf_cons, C_add_X_mul_eq_zero_iff, ih, List.forall_mem_cons]

/-! ## The sum and the product before TRIM (41_polynomial_algebra.md R100, R101) -/

@[simp] theorem polyOf_polyAdd (a b : Poly) : polyOf (polyAdd a b) = polyOf a + polyOf b := by
  induction a, b using polyAdd.induct with
  | case1 b => simp [polyAdd]
  | case2 a h => cases a <;> simp [polyAdd]
  | case3 x a y b ih =>
    simp only [polyAdd, polyOf_cons, ih, gf2_xor, C_add]
    ring

/-- One row of the double loop: AND with one coefficient multiplies by it. -/
@[simp] theorem polyOf_map_and (x : Bool) (b : Poly) : polyOf (b.map fun y => x && y) = C (gf2 x) * polyOf b := by
  induction b with
  | nil => simp
  | cons y b ih =>
    simp only [List.map_cons, polyOf_cons, ih, gf2_and, C_mul]
    ring

@[simp] theorem polyOf_convolve (a b : Poly) : polyOf (convolve a b) = polyOf a * polyOf b := by
  induction a with
  | nil => simp [convolve]
  | cons x a ih =>
    simp only [convolve, polyOf_polyAdd, polyOf_map_and, polyOf_cons, ih, gf2_false, C_0]
    ring

/-! ## TRIM (41_polynomial_algebra.md R101) -/

@[simp] theorem trim_nil : trim [] = [] := rfl

theorem trim_cons_of_nil {a : Poly} (h : trim a = []) (x : Bool) : trim (x :: a) = if x then [true] else [] := by
  rw [trim, h]

theorem trim_cons_of_ne_nil {a : Poly} (h : trim a ≠ []) (x : Bool) : trim (x :: a) = x :: trim a := by
  rw [trim]
  split
  · contradiction
  · rfl

/-- TRIM leaves no trailing zero. -/
theorem trim_getLast?_ne (a : Poly) : (trim a).getLast? ≠ some false := by
  induction a with
  | nil => simp
  | cons x a ih =>
    by_cases h : trim a = []
    · rw [trim_cons_of_nil h]
      cases x <;> simp
    · rwa [trim_cons_of_ne_nil h, List.getLast?_cons_of_ne_nil h]

/-- TRIM keeps the polynomial. -/
@[simp] theorem polyOf_trim (a : Poly) : polyOf (trim a) = polyOf a := by
  induction a with
  | nil => rfl
  | cons x a ih =>
    by_cases h : trim a = []
    · have ha : polyOf a = 0 := by rw [← ih, h, polyOf_nil]
      rw [trim_cons_of_nil h]
      cases x <;> simp [ha]
    · rw [trim_cons_of_ne_nil h, polyOf_cons, polyOf_cons, ih]

theorem trim_eq_nil_iff {a : Poly} : trim a = [] ↔ polyOf a = 0 := by
  refine ⟨fun h => by rw [← polyOf_trim, h, polyOf_nil], fun h => ?_⟩
  induction a with
  | nil => rfl
  | cons x a ih =>
    rw [polyOf_cons, C_add_X_mul_eq_zero_iff] at h
    obtain ⟨rfl, ha⟩ := h
    exact trim_cons_of_nil (ih ha) false

/-- TRIM gives one vector for each polynomial. -/
theorem trim_eq_trim_iff {a b : Poly} : trim a = trim b ↔ polyOf a = polyOf b := by
  refine ⟨fun h => by rw [← polyOf_trim a, h, polyOf_trim], fun h => ?_⟩
  induction a generalizing b with
  | nil => exact (trim_eq_nil_iff.2 h.symm).symm
  | cons x a ih =>
    cases b with
    | nil => exact trim_eq_nil_iff.2 h
    | cons y b =>
      rw [polyOf_cons, polyOf_cons, C_add_X_mul_eq_iff] at h
      obtain ⟨rfl, hab⟩ := h
      rw [trim, trim, ih hab]

/-- A trimmed vector is one longer than the degree of its polynomial. -/
theorem trim_length {a : Poly} (h : trim a ≠ []) : (trim a).length = (polyOf a).natDegree + 1 := by
  induction a with
  | nil => exact absurd rfl h
  | cons x a ih =>
    rw [polyOf_cons, natDegree_C_add]
    by_cases ha : trim a = []
    · rw [trim_cons_of_nil ha] at h ⊢
      rw [trim_eq_nil_iff.1 ha]
      cases x with
      | false => exact absurd rfl h
      | true => simp
    · rw [trim_cons_of_ne_nil ha, List.length_cons, ih ha, natDegree_X_mul (mt trim_eq_nil_iff.2 ha)]

/-! ## MUL (41_polynomial_algebra.md R101, R102) -/

/-- The test for an empty operand changes nothing: the convolution with [] is zero. -/
theorem polyMul_eq_trim_convolve (a b : Poly) : polyMul a b = trim (convolve a b) := by
  rw [polyMul]
  split_ifs with h
  · symm
    rw [trim_eq_nil_iff, polyOf_convolve]
    rcases h with rfl | rfl <;> simp
  · rfl

theorem polyOf_polyMul (a b : Poly) : polyOf (polyMul a b) = polyOf a * polyOf b := by
  rw [polyMul_eq_trim_convolve, polyOf_trim, polyOf_convolve]

theorem polyMul_getLast?_ne (a b : Poly) : (polyMul a b).getLast? ≠ some false := by
  rw [polyMul_eq_trim_convolve]
  exact trim_getLast?_ne _

/-- MUL's result is the trimmed vector of the product, whatever vector stands for it. -/
theorem polyMul_eq_trim {a b c : Poly} (h : polyOf a * polyOf b = polyOf c) : polyMul a b = trim c := by
  rw [polyMul_eq_trim_convolve, trim_eq_trim_iff, polyOf_convolve, h]

theorem polyMul_eq_nil_iff {a b : Poly} : polyMul a b = [] ↔ polyOf a * polyOf b = 0 := by
  rw [polyMul_eq_trim_convolve, trim_eq_nil_iff, polyOf_convolve]

/-- MUL depends on the operands' product only. -/
theorem polyMul_congr {a b c d : Poly} (h : polyOf a * polyOf b = polyOf c * polyOf d) : polyMul a b = polyMul c d := by
  rw [polyMul_eq_trim_convolve c d, polyMul_eq_trim (by rw [h, polyOf_convolve])]

/-- GF(2)[x] has no zero divisors, and degrees add. -/
theorem polyMul_length {a b : Poly} (ha : trim a ≠ []) (hb : trim b ≠ []) :
    (polyMul a b).length = (trim a).length + (trim b).length - 1 := by
  have ha0 : polyOf a ≠ 0 := mt trim_eq_nil_iff.2 ha
  have hb0 : polyOf b ≠ 0 := mt trim_eq_nil_iff.2 hb
  have hab : trim (convolve a b) ≠ [] := by
    rw [Ne, trim_eq_nil_iff, polyOf_convolve]
    exact mul_ne_zero ha0 hb0
  rw [polyMul_eq_trim_convolve, trim_length hab, polyOf_convolve, natDegree_mul ha0 hb0, trim_length ha, trim_length hb]
  omega

/-- Settles O23: each row adds its coefficient's multiple, and TRIM keeps the polynomial. -/
theorem mulIsPolynomialProduct : Obligations.MulIsPolynomialProduct :=
  fun a b => ⟨polyOf_polyMul a b, polyMul_getLast?_ne a b⟩

/-- Settles O24, each case from the product of the polynomials. -/
theorem mulCornerCases : Obligations.MulCornerCases := by
  intro a b
  refine ⟨?_, ?_, fun h => ?_, fun h => ?_, ?_, ?_, polyMul_length, ?_, ?_⟩
  · simp [polyMul]
  · simp [polyMul]
  · rwa [← polyOf_eq_zero_iff, polyOf_convolve, ← polyMul_eq_nil_iff] at h
  · rwa [← polyOf_eq_zero_iff, ← polyOf_eq_zero_iff, ← mul_eq_zero, ← polyMul_eq_nil_iff] at h
  · exact polyMul_congr (by rw [polyOf_trim, polyOf_trim])
  · have hlast := polyMul_getLast?_ne a b
    rcases hl : (polyMul a b).getLast? with _ | _ | _
    · exact .inl (List.getLast?_eq_none_iff.1 hl)
    · exact absurd hl hlast
    · exact .inr rfl
  · exact polyMul_eq_trim (by simp)
  · exact polyMul_congr (mul_comm _ _)

end Sys2Proof.Machine
end

section
/-! PROOF. Packed words of 41_polynomial_algebra.md R104 to R107: where PACK puts a coefficient (O25), and what a packed
XOR does at each position (O26). -/

namespace Sys2Proof.Machine

/-! ## Packed positions (00_scope.md R15) -/

theorem packedBit_of_le {ws : List Word} {j : Nat} (h : ws.length ≤ j / 32) : packedBit ws j = false := by
  rw [packedBit, List.getD_eq_default _ _ h]
  exact BitVec.getLsbD_zero

/-- Bit i of word w is packed position 32w + (31 - i). -/
theorem packedBit_word (ws : List Word) (w : Nat) {i : Nat} (h : i < 32) :
    packedBit ws (32 * w + (31 - i)) = (ws.getD w 0).getLsbD i := by
  rw [packedBit, show (32 * w + (31 - i)) / 32 = w by omega, show 31 - (32 * w + (31 - i)) % 32 = i by omega]

/-- Packed vectors of one length that agree at every position are equal. -/
theorem eq_of_packedBit_eq {a b : List Word} (hlen : a.length = b.length)
    (h : ∀ j, packedBit a j = packedBit b j) : a = b := by
  refine List.ext_getElem hlen fun w ha hb => BitVec.eq_of_getLsbD_eq fun i hi => ?_
  have hw := h (32 * w + (31 - i))
  rwa [packedBit_word a w hi, packedBit_word b w hi, List.getD_eq_getElem _ _ ha, List.getD_eq_getElem _ _ hb] at hw

/-! ## PACK (41_polynomial_algebra.md R104, R105) -/

/-- One turn of PACK's inner loop. -/
theorem setBit_getLsbD (acc : Word) (p : Bool) {b i : Nat} (hb : b < 32) (hi : i < 32) :
    (if p then acc ||| (1#32 <<< (31 - b)) else acc).getLsbD i = (acc.getLsbD i || (decide (31 - i = b) && p)) := by
  have hbit : (1#32 <<< (31 - b)).getLsbD i = decide (31 - i = b) := by
    rw [← BitVec.twoPow_eq, BitVec.getLsbD_twoPow, decide_eq_true (by omega), Bool.true_and, decide_eq_decide]
    omega
  cases p with
  | false => simp
  | true => simp [hbit]

/-- The inner loop of PACK after n of its turns: bit 31 - b holds coefficient b for b < n. -/
theorem foldl_setBits_getLsbD (c : Nat → Bool) {n i : Nat} (hn : n ≤ 32) (hi : i < 32) :
    ((List.range n).foldl (fun acc b => if c b then acc ||| (1#32 <<< (31 - b)) else acc) 0).getLsbD i =
      (decide (31 - i < n) && c (31 - i)) := by
  induction n with
  | zero => simp
  | succ n ih =>
    rw [List.range_succ, List.foldl_append, List.foldl_cons, List.foldl_nil]
    rw [setBit_getLsbD _ _ hn hi, ih (by omega)]
    obtain h | rfl | h := Nat.lt_trichotomy (31 - i) n
    · simp [h, h.ne, Nat.lt_succ_of_lt h]
    · simp
    · simp [h.ne', h.not_gt, show ¬ 31 - i < n + 1 by omega]

theorem packWord_getLsbD (v : Poly) (w : Nat) {i : Nat} (hi : i < 32) :
    (packWord v w).getLsbD i = polyCoeff v (32 * w + (31 - i)) := by
  rw [packWord, foldl_setBits_getLsbD (fun b => polyCoeff v (32 * w + b)) le_rfl hi,
    decide_eq_true (by omega), Bool.true_and]

@[simp] theorem pack_length (v : Poly) : (pack v).length = (v.length + 31) / 32 := by
  rw [pack, List.length_map, List.length_range]

/-- Coefficient j stands at packed position j; beyond the vector both are 0. -/
@[simp] theorem packedBit_pack (v : Poly) (j : Nat) : packedBit (pack v) j = polyCoeff v j := by
  by_cases hj : j / 32 < (v.length + 31) / 32
  · have hw : (pack v).getD (j / 32) 0 = packWord v (j / 32) := by simp [pack, hj]
    rw [packedBit, hw, packWord_getLsbD v _ (by omega)]
    congr 1
    omega
  · rw [packedBit_of_le (by rw [pack_length]; omega), polyCoeff, List.getD_eq_default _ _ (by omega)]

/-- Settles O25. -/
theorem packPlacesCoefficients : Obligations.PackPlacesCoefficients :=
  fun v => ⟨pack_length v, packedBit_pack v⟩

/-! ## Packed XOR and the packed view (41_polynomial_algebra.md R107; 43_lfsr_encoder.md R151) -/

theorem packedXor_length {a b : List Word} (h : a.length = b.length) : (packedXor a b).length = a.length := by
  rw [packedXor, List.length_zipWith, h, Nat.min_self]

/-- Packed XOR word by word, and beyond the words, where all are 0. -/
theorem packedXor_getD {a b : List Word} (h : a.length = b.length) (w : Nat) :
    (packedXor a b).getD w 0 = a.getD w 0 ^^^ b.getD w 0 := by
  by_cases hw : w < a.length <;> simp [packedXor, hw, ← h]

theorem packedBit_packedXor {a b : List Word} (h : a.length = b.length) (j : Nat) :
    packedBit (packedXor a b) j = (packedBit a j ^^ packedBit b j) := by
  rw [packedBit, packedXor_getD h, BitVec.getLsbD_xor, packedBit, packedBit]

@[simp] theorem packedView_length {r : Nat} (x : BitVec r) : (packedView x).length = (r + 31) / 32 := by
  rw [packedView, pack_length, List.length_map, List.length_range]

/-- The packed view holds cell j at position j. -/
@[simp] theorem packedBit_packedView {r : Nat} (x : BitVec r) (j : Nat) : packedBit (packedView x) j = x.getLsbD j := by
  rw [packedView, packedBit_pack, polyCoeff]
  by_cases hj : j < r
  · simp [hj]
  · simp [hj, BitVec.getLsbD_of_ge x j (by omega)]

theorem packedXor_packedView {r : Nat} (x g : BitVec r) :
    packedXor (packedView x) (packedView g) = packedView (x ^^^ g) := by
  have hlen : (packedView x).length = (packedView g).length := by rw [packedView_length, packedView_length]
  refine eq_of_packedBit_eq ?_ fun j => ?_
  · rw [packedXor_length hlen, packedView_length, packedView_length]
  · rw [packedBit_packedXor hlen, packedBit_packedView, packedBit_packedView, packedBit_packedView, BitVec.getLsbD_xor]

/-- Settles O26: bit i of each word is one packed position, and the XOR of the words is taken bit by bit. -/
theorem packedXorIsPositionwise : Obligations.PackedXorIsPositionwise :=
  ⟨fun _ _ h => ⟨packedXor_length h, fun w _ => packedXor_getD h w, packedBit_packedXor h⟩,
    fun _ => packedXor_packedView⟩

end Sys2Proof.Machine
end

section
/-! PROOF. CFG (42_generator_table.md R134, R137): its whole effect (O13), the registers it leaves (O14), the redundancy
that CODE_INFO shows (O15), and the pairs of the reference table (O17). -/

namespace Sys2Proof.Machine

open Sys2Proof.Safety

/-! ## CFG's effect (42_generator_table.md R134, R137) -/

theorem exec_cfg_of_ready {s : State} (hm : s.mode = .idle ∨ s.mode = .active) (cls : BitVec 2) (rate : BitVec 6) :
    exec (.cfg cls rate) s = .next (s.configure cls rate).clearPend := by
  rcases hm with hm | hm <;> simp [exec, execCfg, admissionError_cfg, hm]

theorem resolve_of_lookup_some {rom : Rom} {cls : BitVec 2} {rate : BitVec 6} {e : ConfigEntry}
    (h : lookupConfig rom.config cls rate = some e) :
    resolve rom cls rate =
      some { cls := cls, rate := rate, k := e.n - BitVec.ofNat 16 e.fam.redundancy, n := e.n, fam := e.fam } := by
  rw [resolve, h]

/-- Settles O13: an admitted CFG stores what RESOLVE gives for its pair. -/
theorem cfgStoresAndResolvesItsPair : Obligations.CfgStoresAndResolvesItsPair := by
  intro s cls rate hm
  rw [exec_cfg_of_ready hm, State.configure]
  refine ⟨fun e he => ?_, fun hn => ?_⟩
  · rw [resolve_of_lookup_some he]
    rfl
  · rw [(resolve_eq_none_iff s.rom cls rate).2 hn]
    rfl

/-! ## The registers after CFG (95_test_vectors.md section 2.4) -/

/-- The registers that show a CFG's outcome: CFG, STATUS, CODE_K, CODE_N, CODE_INFO. -/
def cfgRegisters (s : State) : Word × Word × Word × Word × Word :=
  (regValue s .cfg, regValue s .status, regValue s .codeK, regValue s .codeN, regValue s .codeInfo)

/-- RESOLVE reads nothing of the ROM but the configuration table (42_generator_table.md R134). -/
theorem resolve_congr {rom rom' : Rom} (h : rom.config = rom'.config) (cls : BitVec 2) (rate : BitVec 6) :
    resolve rom cls rate = resolve rom' cls rate := by
  rw [resolve, resolve, h]

/-- What CFG leaves in these registers depends on the configuration table and ERR only. -/
theorem cfgRegisters_configure_congr {s t : State} (hc : s.rom.config = t.rom.config) (he : s.err = t.err)
    (cls : BitVec 2) (rate : BitVec 6) :
    cfgRegisters (s.configure cls rate).clearPend = cfgRegisters (t.configure cls rate).clearPend := by
  have hres := resolve_congr hc cls rate
  have herr : (s.configure cls rate).clearPend.errAny = (t.configure cls rate).clearPend.errAny :=
    congrArg (fun e => decide (e ≠ 0)) he
  simp [cfgRegisters, regValue, cfgWord, statusWord, State.busy, codeKWord, codeNWord, codeInfoWord, State.shownCode,
    hres, herr]

/-- A row of 95_test_vectors.md section 2.4, computed: a pair's CFG word and the registers that CFG leaves in the reset
state, which holds the reference table and ERR = 0. -/
def cfgReferenceRow (p : BitVec 2 × BitVec 6) : Word × Word × Word × Word × Word × Word :=
  (encode (.cfg p.1 p.2), cfgRegisters (State.reset.configure p.1 p.2).clearPend)

/-- Settles O14: the rows are those of seven pairs, and the registers after CFG are the same in every state with the
reference table and ERR = 0. -/
theorem cfgReferenceResults : Obligations.CfgReferenceResults := by
  intro s hm hc he row hrow
  have hmem : row ∈ [(0, 3), (0, 5), (0, 11), (1, 0), (2, 44), (1, 11), (3, 63)].map cfgReferenceRow := hrow
  obtain ⟨p, -, rfl⟩ := List.mem_map.1 hmem
  have hreg := cfgRegisters_configure_congr (s := s) (t := State.reset) hc he p.1 p.2
  simp only [cfgRegisters, Prod.mk.injEq] at hreg
  exact ⟨.cfg p.1 p.2, _, decode_encode _, exec_cfg_of_ready hm _ _, hreg⟩

/-! ## The shown lengths (42_generator_table.md R129; 10_state.md R31 to R33) -/

theorem and_0xFF_toNat (w : Word) : (w &&& 0xFF#32).toNat = (w.extractLsb' 0 8).toNat := by
  rw [BitVec.toNat_and, BitVec.extractLsb'_toNat]
  exact Nat.and_two_pow_sub_one_eq_mod w.toNat 8

theorem redundancy_mem (f : Family) : f.redundancy ∈ [128, 160, 168, 180, 192] := by cases f <;> decide

/-- Settles O15: ACTIVE holds a configuration, the invariant gives its n - k = R_f, and CODE_INFO shows R_f. -/
theorem shownLengthsDifferByRedundancy : Obligations.ShownLengthsDifferByRedundancy := by
  intro s hinv hm
  obtain ⟨c, hc⟩ := Option.ne_none_iff_exists'.1 (hinv.activeIffCode.1 hm)
  obtain ⟨-, hkn, hr⟩ := hinv.code c hc
  obtain ⟨hK, hN, hR, -⟩ := (codeRegistersShowConfiguration s).2 c hm hc
  have hinfo : (regValue s .codeInfo &&& 0xFF#32).toNat = c.fam.redundancy := (and_0xFF_toNat _).trans hR
  refine ⟨BitVec.eq_of_toNat_eq ?_, hinfo ▸ redundancy_mem c.fam⟩
  rw [hinfo, hK, hN, ← hr]
  bv_omega

/-! ## The reference table (42_generator_table.md R126 to R128) -/

/-- In a table the spec admits, class 3, the unassigned rates and the placeholders have no entry. -/
theorem lookupConfig_eq_none_of_wf {table : List ConfigEntry} (ht : configTableWf table = true) {c : BitVec 2}
    {r : BitVec 6} (h : c = 3 ∨ 51 ≤ r.toNat ∨ r = 9 ∨ r = 50) : lookupConfig table c r = none := by
  simp only [configTableWf, Bool.and_eq_true, List.all_eq_true] at ht
  refine List.find?_eq_none.2 fun e he hp => ?_
  have hw := ht.1 e he
  simp only [Bool.and_eq_true, decide_eq_true_eq] at hp
  obtain ⟨rfl, rfl⟩ := hp
  simp only [ConfigEntry.wf, Bool.and_eq_true, decide_eq_true_eq] at hw
  obtain ⟨⟨⟨⟨-, hcls⟩, hrate⟩, h7_8⟩, hOther⟩ := hw
  rcases h with hc | hr | hr | hr
  · simp [hc] at hcls
  · omega
  · exact h7_8 hr
  · exact hOther hr

/-- Settles O17: the count runs through the 256 pairs; no table that the spec admits has an entry for the pairs named
beside it. -/
theorem referenceTableSupportsSixtyPairs : Obligations.ReferenceTableSupportsSixtyPairs :=
  ⟨referenceConfig_wf, rfl, by decide +kernel, fun _ _ => lookupConfig_eq_none_of_wf referenceConfig_wf⟩

end Sys2Proof.Machine
end

section
/-! PROOF. BUILD (42_generator_table.md R130 to R133): the three causes of its failure (O19), and the words of the
reference factors (O21). -/

namespace Sys2Proof.Machine

open Sys2Proof.Safety

/-! ## One family (42_generator_table.md R130, R131) -/

/-- The running product goes through exactly where no product needs more than MAXLEN coefficients, and is then the
product of all factors. -/
theorem buildProduct_eq_some_iff {maxLen : Nat} {g p : Poly} {factors : List Poly} :
    buildProduct maxLen g factors = some p ↔
      (∀ i, ∀ h : i < factors.length,
        ((factors.take i).foldl polyMul g).length + (factors[i]'h).length ≤ maxLen + 1) ∧
      factors.foldl polyMul g = p := by
  induction factors generalizing g with
  | nil => simp [buildProduct]
  | cons phi rest ih =>
    have hsplit : (∀ i, ∀ h : i < (phi :: rest).length,
          (((phi :: rest).take i).foldl polyMul g).length + ((phi :: rest)[i]'h).length ≤ maxLen + 1) ↔
        g.length + phi.length ≤ maxLen + 1 ∧
          ∀ i, ∀ h : i < rest.length,
            ((rest.take i).foldl polyMul (polyMul g phi)).length + (rest[i]'h).length ≤ maxLen + 1 :=
      Nat.forall_lt_succ_left'
    rw [hsplit, buildProduct, List.foldl_cons, and_assoc, ← ih, ← not_lt]
    split_ifs with h <;> simp [h]

theorem not_productOverflows_iff {maxLen : Nat} {factors : List Poly} :
    ¬ProductOverflows maxLen factors ↔
      ∀ i, ∀ h : i < factors.length, (productOfFirst factors i).length + (factors[i]'h).length ≤ maxLen + 1 := by
  simp only [ProductOverflows, not_exists, not_lt]

/-- BUILD's test and result for one family, by the three causes of R131. -/
theorem buildFamily_eq_some_iff {maxLen : Nat} {f : Family} {factors : List Poly} {ws : List Word} :
    buildFamily maxLen f factors = some ws ↔
      (¬ProductOverflows maxLen factors ∧ ¬DegreeDiffers f factors ∧ ¬WordsDiffer f factors) ∧
        ws = pack ((productOfFirst factors factors.length).take f.redundancy) := by
  have hprod : ∀ p, buildProduct maxLen [true] factors = some p ↔
      ¬ProductOverflows maxLen factors ∧ productOfFirst factors factors.length = p := fun p => by
    rw [buildProduct_eq_some_iff, not_productOverflows_iff, productOfFirst, List.take_length]
    rfl
  rw [buildFamily, DegreeDiffers, WordsDiffer]
  cases hb : buildProduct maxLen [true] factors with
  | none =>
    have ho : ProductOverflows maxLen factors := by simpa [hb] using hprod (productOfFirst factors factors.length)
    simp [ho]
  | some p =>
    obtain ⟨ho, rfl⟩ := (hprod p).1 hb
    dsimp only
    split_ifs with hd hw
    · simp [hd]
    · simp [-pack_length, hw]
    · simp [-pack_length, ho, hd, hw, eq_comm]

/-- A family builds exactly where none of the three causes of R131 is met. -/
theorem buildFamily_ne_none_iff {maxLen : Nat} {f : Family} {factors : List Poly} :
    buildFamily maxLen f factors ≠ none ↔
      ¬ProductOverflows maxLen factors ∧ ¬DegreeDiffers f factors ∧ ¬WordsDiffer f factors := by
  simp only [Option.ne_none_iff_exists', buildFamily_eq_some_iff, exists_and_left, exists_eq, and_true]

/-! ## BUILD's outcome (42_generator_table.md R130, R131) -/

theorem buildFrom_idle {fs : List Family} {s : State}
    (h : ∀ f ∈ fs, buildFamily s.params.maxLen f (s.rom.factors.get f) ≠ none) : (buildFrom fs s).mode = .idle := by
  induction fs generalizing s with
  | nil => rfl
  | cons f fs ih =>
    obtain ⟨hf, hfs⟩ := List.forall_mem_cons.1 h
    obtain ⟨ws, hws⟩ := Option.ne_none_iff_exists'.1 hf
    rw [buildFrom, hws]
    exact ih hfs

theorem build_idle_iff (s : State) :
    (build s).mode = .idle ↔ ∀ f, buildFamily s.params.maxLen f (s.rom.factors.get f) ≠ none :=
  ⟨fun h f => by simp [build_idle_gen h f], fun h => buildFrom_idle fun f _ => h f⟩

/-- BUILD ends in IDLE and changes nothing else but GEN, or ends in FAULT with TABLE raised. -/
theorem build_cases (s : State) :
    ((build s).mode = .idle ∧ build s = { s with mode := .idle, gen := (build s).gen }) ∨
      ((build s).mode ≠ .idle ∧
        build s = { s with mode := .fault, err := s.err ||| errMask .table, gen := (build s).gen }) := by
  rcases buildFrom_cases allFamilies s with ⟨g, hg⟩ | ⟨g, hg⟩
  · exact .inl (by simp [build, hg])
  · exact .inr (by simp [build, hg])

/-- Settles O19: BUILD ends in IDLE exactly where every family builds, and a family fails by one of R131's causes. -/
theorem buildFailsExactlyOnInconsistency : Obligations.BuildFailsExactlyOnInconsistency := by
  intro s
  have hidle := build_idle_iff s
  simp only [buildFamily_ne_none_iff] at hidle
  rcases build_cases s with ⟨hm, hb⟩ | ⟨hm, hb⟩
  · refine ⟨fun ⟨f, hf⟩ => ?_, fun _ => hb⟩
    obtain ⟨ho, hd, hw⟩ := hidle.1 hm f
    rcases hf with h | h | h <;> contradiction
  · exact ⟨fun _ => hb, fun hf => absurd (hidle.2 hf) hm⟩

/-! ## The reference factors (42_generator_table.md R133) -/

/-- What a multiplier builds, a larger one builds. -/
theorem buildFamily_mono {m n : Nat} (hmn : m ≤ n) {f : Family} {factors : List Poly} {ws : List Word}
    (h : buildFamily m f factors = some ws) : buildFamily n f factors = some ws := by
  rw [buildFamily_eq_some_iff, not_productOverflows_iff] at h ⊢
  obtain ⟨⟨ho, hf⟩, hws⟩ := h
  exact ⟨⟨fun i hi => (ho i hi).trans (by omega), hf⟩, hws⟩

/-- Settles O21: BUILD with MAXLEN = 193 is computed, and a larger MAXLEN changes no word. -/
theorem referenceGeneratorWords : Obligations.ReferenceGeneratorWords := by
  intro maxLen h
  refine ⟨buildFamily_mono h ?_, buildFamily_mono h ?_, buildFamily_mono h ?_, buildFamily_mono h ?_⟩ <;>
    decide +kernel

end Sys2Proof.Machine
end

section
/-! PROOF. Runs with no reset: GEN keeps what BUILD left (O20), and a pair resolves as it did before (O16)
(42_generator_table.md R132, R136). -/

namespace Sys2Proof.Machine

/-! ## Turns -/

theorem turn_ne_reset {s : State} (h : Turn.reset ∉ s.sched) : s.turn ≠ .reset := by
  unfold State.turn
  split
  · rename_i t ts hs
    rintro rfl
    exact h (hs ▸ List.mem_cons_self)
  · split <;> decide

/-- Acceptance, like the host's accesses and BUILD below, leaves the given turns alone. -/
theorem accept_sched (v : Word) (s : State) : (accept v s).sched = s.sched := by
  rcases accept_cases v s with ⟨e, -, h⟩ | ⟨i, -, -, -, -, h⟩ <;> rw [h] <;> rfl

theorem hostRead_sched {p : Place} {w : Width} {s : State} (h : placeAdmitted s.params w p = true) :
    (hostRead p w s).sched = s.sched := by
  rcases hostRead_cases h with ⟨v, n, e⟩ | ⟨-, v, n, e⟩ | ⟨-, e⟩ <;> rw [e] <;> rfl

theorem hostWrite_sched {p : Place} {w : Width} {s : State} (v : Word) (h : placeAdmitted s.params w p = true) :
    (hostWrite p w v s).sched = s.sched := by
  rcases hostWrite_cases v h with e | e | ⟨ib, ia, ob, os, e⟩ | ⟨-, e⟩ | ⟨a, bs, -, e⟩ | ⟨a, bs, -, e⟩ <;> rw [e]
  case inl => exact accept_sched v s
  all_goals rfl

theorem build_sched (s : State) : (build s).sched = s.sched := by rw [build_changes]

/-- Every step uses up the turn it takes, and no other. -/
theorem step_sched {s t : State} (h : step s = .next t) : t.sched = s.sched.tail := by
  rcases step_cases h with ⟨-, rfl⟩ | ⟨p, -, -, he⟩ | ⟨-, -, -, rfl⟩ | ⟨-, -, -, rfl⟩ | ⟨-, -, rfl⟩ |
    ⟨p, w, -, ha, rfl⟩ | ⟨p, w, v, -, ha, rfl⟩ | ⟨done, -, rfl⟩
  · rfl
  · rw [exec_changes he]; rfl
  · exact build_sched _
  · rfl
  · rfl
  · exact hostRead_sched (s := s.popTurn.popOp) ha
  · exact hostWrite_sched (s := s.popTurn.popOp) v ha
  · rw [pollStatus_eq]; rfl

/-! ## What a run with no reset keeps -/

theorem exec_ready {i : Instr} {s t : State} (h : exec i s = .next t) (hm : s.mode = .idle ∨ s.mode = .active) :
    t.mode = .idle ∨ t.mode = .active := by
  rcases exec_cases h with ⟨e, -, rfl⟩ | ⟨-, -, rfl⟩ | ⟨cls, rate, -, -, rfl⟩ | ⟨eof, c, -, -, -, -, rfl⟩
  · exact hm
  · exact hm
  · cases hr : resolve s.rom cls rate <;> simp [hr]
  · rw [State.work_eq]; exact hm

/-- Only reset leaves IDLE and ACTIVE. -/
theorem step_ready {s t : State} (h : step s = .next t) (hr : s.turn ≠ .reset)
    (hm : s.mode = .idle ∨ s.mode = .active) : t.mode = .idle ∨ t.mode = .active := by
  cases hturn : s.turn with
  | reset => exact absurd hturn hr
  | engine =>
    rcases step_engine_cases h hturn with ⟨p, -, he⟩ | ⟨-, hi, -⟩ | ⟨-, -, rfl⟩
    · exact exec_ready he hm
    · simp [hi] at hm
    · exact hm
  | host => rwa [(step_host_frame h hturn).mode]

/-- In IDLE and ACTIVE only reset changes GEN: BUILD runs in INIT alone. -/
theorem step_gen {s t : State} (h : step s = .next t) (hr : s.turn ≠ .reset)
    (hm : s.mode = .idle ∨ s.mode = .active) : t.gen = s.gen := by
  obtain ⟨-, -, hgen⟩ := romIsFixedAndOnlyBuildWritesGen s t h
  by_contra hne
  rcases hgen hne with hreset | ⟨-, -, hi⟩
  · exact hr hreset
  · simp [hi] at hm

/-- A run is its first step, then a run from there. -/
theorem run_succ_eq_next {M : Host.Core} {m : Nat} {s u : M.State} (h : M.run (m + 1) s = .next u) :
    ∃ t, M.step s = .next t ∧ M.run m t = .next u := by
  rw [Host.Core.run] at h
  split at h
  · exact ⟨_, ‹_›, h⟩
  · simp at h
  · simp at h

/-- A run with no reset among its turns stays in IDLE or ACTIVE and keeps the ROM and GEN. -/
theorem run_keeps_tables {m : Nat} {s u : State} (hr : Turn.reset ∉ s.sched) (hm : s.mode = .idle ∨ s.mode = .active)
    (h : Host.Core.run core m s = .next u) : (u.mode = .idle ∨ u.mode = .active) ∧ u.rom = s.rom ∧ u.gen = s.gen := by
  induction m generalizing s with
  | zero =>
    obtain rfl : s = u := Host.Outcome.next.inj h
    exact ⟨hm, rfl, rfl⟩
  | succ m ih =>
    obtain ⟨t, hs, ht⟩ := run_succ_eq_next h
    have hturn := turn_ne_reset hr
    have hsched : Turn.reset ∉ t.sched := step_sched hs ▸ fun hmem => hr (List.mem_of_mem_tail hmem)
    obtain ⟨hu, hrom, hgen⟩ := ih hsched (step_ready hs hturn hm) ht
    exact ⟨hu, hrom.trans (romIsFixedAndOnlyBuildWritesGen s t hs).1, hgen.trans (step_gen hs hturn hm)⟩

/-! ## GEN after BUILD, and CFG of the same pair -/

theorem polyCoeff_take (p : Poly) (n j : Nat) : polyCoeff (p.take n) j = (decide (j < n) && polyCoeff p j) := by
  by_cases h : j < n <;> simp [polyCoeff, List.getD_eq_getElem?_getD, h]

/-- Settles O20: BUILD's words are PACK of the product's first R_f coefficients, and a run from IDLE keeps them. -/
theorem genHoldsProductOfFactors : Obligations.GenHoldsProductOfFactors := by
  intro s hm f
  obtain ⟨-, hgen⟩ := buildFamily_eq_some_iff.1 (build_idle_gen hm f)
  refine ⟨hgen, fun j hj => ?_, fun j hj => ?_, fun m u hr hrun => ?_⟩
  · rw [hgen, packedBit_pack, polyCoeff_take, decide_eq_true hj, Bool.true_and]
  · rw [hgen, packedBit_pack, polyCoeff_take, decide_eq_false (not_lt.2 hj), Bool.false_and]
  · obtain ⟨-, -, hu⟩ := run_keeps_tables (build_sched s ▸ hr) (.inl hm) hrun
    rw [hu]

/-- Settles O16: RESOLVE reads the ROM only, and a run with no reset keeps the ROM and GEN. -/
theorem samePairSameConfiguration : Obligations.SamePairSameConfiguration := by
  intro s t u cls rate m hm ht hr hrun
  obtain rfl : (s.configure cls rate).clearPend = t :=
    Host.Outcome.next.inj ((exec_cfg_of_ready hm cls rate).symm.trans ht)
  obtain ⟨hu, hrom, hgen⟩ := run_keeps_tables hr (exec_ready ht hm) hrun
  refine ⟨_, exec_cfg_of_ready hu cls rate, congrArg (resolve · cls rate) hrom, fun c _ => ?_⟩
  exact congrArg (·.get c.fam) hgen

end Sys2Proof.Machine
end

section
/-! PROOF. The LFSR encoder cell by cell (43_lfsr_encoder.md R152 to R156): the chain shift (O27), FEED (O28), PARITY
(O29), and that the encoder is linear (O32). -/

namespace Sys2Proof.Machine

/-! ## SHIFT (43_lfsr_encoder.md R152) -/

theorem shiftCells_getLsbD {r : Nat} (sr : BitVec r) (i : Nat) :
    (shiftCells sr).getLsbD i = (decide (i < r) && (decide (0 < i) && sr.getLsbD (i - 1))) := by
  rw [shiftCells, BitVec.getLsbD_shiftLeft, Bool.and_assoc]
  cases i <;> simp

/-- The first word holds the first 32 positions. -/
theorem packedBit_cons (w : Word) (ws : List Word) (j : Nat) :
    packedBit (w :: ws) j = if j < 32 then w.getLsbD (31 - j) else packedBit ws (j - 32) := by
  split_ifs with h
  · simp [packedBit, Nat.div_eq_of_lt h, Nat.mod_eq_of_lt h]
  · rw [packedBit, packedBit, show j / 32 = (j - 32) / 32 + 1 by omega, show j % 32 = (j - 32) % 32 by omega,
      List.getD_cons_succ]

@[simp] theorem packedShiftRight_length (carry : Bool) (ws : List Word) :
    (packedShiftRight carry ws).length = ws.length := by
  induction ws generalizing carry with
  | nil => rfl
  | cons w ws ih => simp [packedShiftRight, ih]

/-- One word of the word form: its bits move right, and the carry enters at the top. -/
theorem shiftWord_getLsbD (carry : Bool) (w : Word) {j : Nat} (hj : j < 32) :
    ((w >>> 1) ||| (if carry then 0x80000000#32 else 0)).getLsbD (31 - j) =
      if j = 0 then carry else w.getLsbD (31 - (j - 1)) := by
  have htop : (0x80000000#32).getLsbD (31 - j) = decide (j = 0) := by
    rw [show 0x80000000#32 = BitVec.twoPow 32 31 from rfl, BitVec.getLsbD_twoPow, decide_eq_true (by omega),
      Bool.true_and, decide_eq_decide]
    omega
  rw [BitVec.getLsbD_or, BitVec.getLsbD_ushiftRight]
  by_cases h0 : j = 0
  · subst h0
    cases carry <;> simp
  · rw [if_neg h0, show 1 + (31 - j) = 31 - (j - 1) by omega]
    cases carry <;> simp [htop, h0]

/-- The word form before masking: every position takes the one before it, the first one the carry. -/
theorem packedBit_packedShiftRight (carry : Bool) (ws : List Word) {j : Nat} (hj : j < 32 * ws.length) :
    packedBit (packedShiftRight carry ws) j = if j = 0 then carry else packedBit ws (j - 1) := by
  induction ws generalizing carry j with
  | nil => simp at hj
  | cons w ws ih =>
    rw [packedShiftRight, packedBit_cons, packedBit_cons]
    by_cases hlt : j < 32
    · rw [if_pos hlt, if_pos (show j - 1 < 32 by omega), shiftWord_getLsbD carry w hlt]
    · rw [List.length_cons] at hj
      rw [if_neg hlt, ih _ (by omega), if_neg (show j ≠ 0 by omega)]
      by_cases h32 : j = 32
      · subst h32
        rfl
      · rw [if_neg (show j - 32 ≠ 0 by omega), if_neg (show ¬j - 1 < 32 by omega), Nat.sub_right_comm]

/-- Masking packs the positions below r again. -/
theorem packedMask_eq_pack (r : Nat) (ws : List Word) :
    packedMask r ws = pack ((List.range (32 * ws.length)).map fun p => decide (p < r) && packedBit ws p) := by
  rw [packedMask, pack, List.length_map, List.length_range, show (32 * ws.length + 31) / 32 = ws.length by omega]

theorem packedBit_packedMask (r : Nat) (ws : List Word) (j : Nat) :
    packedBit (packedMask r ws) j = (decide (j < r) && packedBit ws j) := by
  rw [packedMask_eq_pack, packedBit_pack, polyCoeff]
  by_cases hj : j < 32 * ws.length
  · simp [hj]
  · rw [List.getD_eq_default _ _ (by simpa using hj), packedBit_of_le (by omega), Bool.and_false]

theorem chainShift_packedView {r : Nat} (sr : BitVec r) :
    chainShift r (packedView sr) = packedView (shiftCells sr) := by
  refine eq_of_packedBit_eq (by simp [chainShift, packedMask]) fun j => ?_
  rw [chainShift, packedBit_packedMask, packedBit_packedView, shiftCells_getLsbD]
  by_cases hj : j < r
  · rw [packedBit_packedShiftRight _ _ (by rw [packedView_length]; omega), packedBit_packedView]
    cases j <;> simp
  · simp [hj]

/-- Settles O27: at every packed position both forms hold the cell before it, masked beyond r. -/
theorem chainShiftAgreesWithCells : Obligations.ChainShiftAgreesWithCells := by
  refine fun r sr => ⟨fun i hi => ?_, chainShift_packedView sr⟩
  rw [shiftCells_getLsbD, decide_eq_true hi, Bool.true_and]

/-! ## FEED (43_lfsr_encoder.md R153, R154) -/

theorem feed_getLsbD {r : Nat} (g sr : BitVec r) (u : Bool) {i : Nat} (hi : i < r) :
    (feed g sr u).getLsbD i = ((decide (0 < i) && sr.getLsbD (i - 1)) ^^ ((u ^^ tapCell sr) && g.getLsbD i)) := by
  have hs := shiftCells_getLsbD sr i
  rw [decide_eq_true hi, Bool.true_and] at hs
  cases hfb : u ^^ tapCell sr <;> simp [feed, hfb, hs]

@[simp] theorem tapCell_zero (r : Nat) : tapCell 0#r = false := BitVec.getLsbD_zero

/-- The tap and FEED are linear in the register and the bit together. -/
theorem tapCell_xor {r : Nat} (x y : BitVec r) : tapCell (x ^^^ y) = (tapCell x ^^ tapCell y) := BitVec.getLsbD_xor

theorem feed_xor {r : Nat} (g x y : BitVec r) (u v : Bool) : feed g (x ^^^ y) (u ^^ v) = feed g x u ^^^ feed g y v := by
  refine BitVec.eq_of_getLsbD_eq fun i hi => ?_
  rw [BitVec.getLsbD_xor, feed_getLsbD g _ _ hi, feed_getLsbD g _ _ hi, feed_getLsbD g _ _ hi, tapCell_xor,
    BitVec.getLsbD_xor]
  simp only [Bool.and_xor_distrib_left, Bool.and_xor_distrib_right, Bool.xor_assoc, Bool.xor_left_comm]

@[simp] theorem feed_zero_false {r : Nat} (g : BitVec r) : feed g 0#r false = 0#r := by
  refine BitVec.eq_of_getLsbD_eq fun i hi => ?_
  simp [feed_getLsbD g 0#r false hi]

/-- From the zero register a single 1 leaves the generator's stored coefficients. -/
theorem feed_zero_true {r : Nat} (g : BitVec r) : feed g 0#r true = g := by
  refine BitVec.eq_of_getLsbD_eq fun i hi => ?_
  simp [feed_getLsbD g 0#r true hi]

/-- Settles O28. -/
theorem feedCellByCell : Obligations.FeedCellByCell := by
  refine fun r g sr u => ⟨fun hr => ?_, fun i h1 hi => ?_, feed_zero_false g⟩
  · simp [feed_getLsbD g sr u hr, tapCell]
  · rw [feed_getLsbD g sr u hi, decide_eq_true (show 0 < i from h1), Bool.true_and, tapCell]

theorem feedAll_concat {r : Nat} (g sr : BitVec r) (us : List Bool) (u : Bool) :
    feedAll g sr (us ++ [u]) = feed g (feedAll g sr us) u :=
  List.foldl_append

theorem feedAll_xor {r : Nat} (g x y : BitVec r) {us vs : List Bool} (h : us.length = vs.length) :
    feedAll g (x ^^^ y) (List.zipWith xor us vs) = feedAll g x us ^^^ feedAll g y vs := by
  induction us generalizing x y vs with
  | nil =>
    obtain rfl := List.length_eq_zero_iff.1 h.symm
    rfl
  | cons u us ih =>
    obtain ⟨v, vs, rfl⟩ := List.exists_cons_of_length_eq_add_one h.symm
    simp only [feedAll, List.zipWith_cons_cons, List.foldl_cons, feed_xor]
    exact ih _ _ (Nat.succ.inj h)

@[simp] theorem feedAll_replicate_false {r : Nat} (g : BitVec r) (m : Nat) :
    feedAll g 0#r (List.replicate m false) = 0#r := by
  induction m with
  | zero => rfl
  | succ m ih => rw [List.replicate_succ', feedAll_concat, ih, feed_zero_false]

/-! ## PARITY (43_lfsr_encoder.md R155, R156) -/

/-- Each PARITY step emits the tap of the register shifted once more. -/
theorem parityRun_eq {r : Nat} (m : Nat) (sr : BitVec r) :
    parityRun m sr = ((List.range m).map fun j => tapCell (sr <<< j), sr <<< m) := by
  induction m generalizing sr with
  | zero => simp [parityRun]
  | succ m ih =>
    have hshift : ∀ j, sr <<< 1 <<< j = sr <<< (j + 1) := fun j => by rw [Nat.add_comm, BitVec.shiftLeft_add]
    simp [parityRun, parityStep, shiftCells, ih, hshift, List.range_succ_eq_map, Function.comp_def]

theorem tapCell_shiftLeft {r j : Nat} (sr : BitVec r) (hj : j < r) : tapCell (sr <<< j) = sr.getLsbD (r - 1 - j) := by
  rw [tapCell, BitVec.getLsbD_shiftLeft, decide_eq_true (by omega), decide_eq_false (by omega)]
  rfl

theorem parityRun_width {r : Nat} (sr : BitVec r) :
    parityRun r sr = ((List.range r).map fun j => sr.getLsbD (r - 1 - j), 0#r) := by
  rw [parityRun_eq, BitVec.shiftLeft_eq_zero le_rfl]
  congr 1
  exact List.map_congr_left fun j hj => tapCell_shiftLeft sr (List.mem_range.1 hj)

/-- Settles O29. -/
theorem parityEmitsHighestCellFirst : Obligations.ParityEmitsHighestCellFirst := fun _ => parityRun_width

/-- The parity region is the register after the information bits, highest cell first. -/
theorem parityOf_eq_map {r : Nat} (g : BitVec r) (us : List Bool) :
    parityOf g us = (List.range r).map fun j => (feedAll g 0#r us).getLsbD (r - 1 - j) := by
  rw [parityOf, parityRun_width]
  rfl

/-- Settles O32: FEED is linear, and the parity is read off the register cell by cell. -/
theorem parityIsLinear : Obligations.ParityIsLinear := by
  refine fun r g => ⟨fun us vs h => ?_, fun m => ?_⟩
  · have hfeed := feedAll_xor g 0#r 0#r h
    rw [BitVec.xor_zero] at hfeed
    simp [parityOf_eq_map, hfeed, List.zipWith_map]
  · simp [parityOf_eq_map, List.map_const']

end Sys2Proof.Machine
end

section
/-! PROOF. The algebra of the encoder (43_lfsr_encoder.md R157 to R162): the register holds the remainder (O30), every
frame is divisible by the generator (O31), and the parities of the unit vectors (O33). -/

namespace Sys2Proof.Machine

open Sys2Proof.Safety Polynomial

/-! ## Streams as polynomials (00_scope.md R16) -/

theorem polyOf_append (a b : Poly) : polyOf (a ++ b) = polyOf a + X ^ a.length * polyOf b := by
  induction a with
  | nil => simp
  | cons x a ih =>
    rw [List.cons_append, polyOf_cons, ih, polyOf_cons, List.length_cons]
    ring

theorem coeff_polyOf (a : Poly) (i : Nat) : (polyOf a).coeff i = gf2 (polyCoeff a i) := by
  induction a generalizing i with
  | nil => simp [polyCoeff]
  | cons x a ih => cases i <;> simp [polyCoeff, ih]

/-- A stream is the vector of its coefficients read backwards. -/
theorem streamPoly_eq_polyOf_reverse (c : List Bool) : streamPoly c = polyOf c.reverse := by
  rw [streamPoly, polyOf, List.length_reverse, ← Finset.sum_range_reflect]
  refine Finset.sum_congr rfl fun i hi => ?_
  have hi := Finset.mem_range.1 hi
  rw [polyCoeff, List.getD_reverse _ (by omega), show c.length - 1 - (c.length - 1 - i) = i by omega]

theorem streamPoly_append (a b : List Bool) : streamPoly (a ++ b) = streamPoly a * X ^ b.length + streamPoly b := by
  simp only [streamPoly_eq_polyOf_reverse, List.reverse_append, polyOf_append, List.length_reverse]
  ring

@[simp] theorem streamPoly_singleton (u : Bool) : streamPoly [u] = C (gf2 u) := by
  simp [streamPoly_eq_polyOf_reverse]

@[simp] theorem streamPoly_replicate_false (m : Nat) : streamPoly (List.replicate m false) = 0 := by
  rw [streamPoly_eq_polyOf_reverse, polyOf_eq_zero_iff]
  simp

/-- A single 1 at the first position is the highest power of x. -/
theorem streamPoly_true_cons_replicate_false (m : Nat) : streamPoly (true :: List.replicate m false) = X ^ m := by
  have h := streamPoly_append [true] (List.replicate m false)
  simpa using h

/-! ## The register's polynomial (43_lfsr_encoder.md R157) -/

theorem cellsPoly_eq_polyOf {r : Nat} (sr : BitVec r) : cellsPoly sr = polyOf ((List.range r).map sr.getLsbD) := by
  rw [cellsPoly, polyOf, List.length_map, List.length_range]
  refine Finset.sum_congr rfl fun i hi => ?_
  simp [polyCoeff, Finset.mem_range.1 hi]

@[simp] theorem coeff_cellsPoly {r : Nat} (sr : BitVec r) (i : Nat) : (cellsPoly sr).coeff i = gf2 (sr.getLsbD i) := by
  rw [cellsPoly_eq_polyOf, coeff_polyOf, polyCoeff]
  by_cases hi : i < r
  · simp [hi]
  · simp [hi, BitVec.getLsbD_of_ge sr i (not_lt.1 hi)]

theorem degree_cellsPoly_lt {r : Nat} (sr : BitVec r) : (cellsPoly sr).degree < r :=
  (degree_lt_iff_coeff_zero _ _).2 fun i hi => by rw [coeff_cellsPoly, BitVec.getLsbD_of_ge sr i hi, gf2_false]

@[simp] theorem cellsPoly_zero (r : Nat) : cellsPoly 0#r = 0 := by
  ext i
  simp

theorem generatorPoly_monic {r : Nat} (g : BitVec r) : (generatorPoly g).Monic :=
  monic_X_pow_add (degree_cellsPoly_lt g)

theorem degree_generatorPoly {r : Nat} (g : BitVec r) : (generatorPoly g).degree = r := by
  rw [generatorPoly, degree_add_eq_left_of_degree_lt (by simpa using degree_cellsPoly_lt g), degree_X_pow]

/-- SHIFT multiplies by x, but for the cell that leaves. -/
theorem cellsPoly_shiftCells {r : Nat} (sr : BitVec r) :
    cellsPoly (shiftCells sr) = X * cellsPoly sr + C (gf2 (tapCell sr)) * X ^ r := by
  ext i
  rw [coeff_add, coeff_C_mul_X_pow, coeff_cellsPoly, shiftCells_getLsbD]
  cases i with
  | zero =>
    obtain rfl | hr := Nat.eq_zero_or_pos r
    · simp [tapCell]
    · simp [hr.ne]
  | succ i =>
    rw [coeff_X_mul, coeff_cellsPoly]
    obtain h | rfl | h := Nat.lt_trichotomy (i + 1) r
    · simp [h, h.ne]
    · simp [tapCell, CharTwo.add_self_eq_zero]
    · simp [h.ne', h.not_gt, BitVec.getLsbD_of_ge sr i (Nat.le_of_lt_succ h)]

/-- FEED shifts the register and adds the generator's stored part as often as the feedback bit says. -/
theorem cellsPoly_feed {r : Nat} (g sr : BitVec r) (u : Bool) :
    cellsPoly (feed g sr u) = cellsPoly (shiftCells sr) + C (gf2 (u ^^ tapCell sr)) * cellsPoly g := by
  ext i
  rw [coeff_add, coeff_C_mul, coeff_cellsPoly, coeff_cellsPoly, coeff_cellsPoly, feed]
  cases u ^^ tapCell sr <;> simp

/-- FEED modulo the generator: multiply by x and add u x^r. The feedback bit cancels the cell that leaves. -/
theorem cellsPoly_feed_eq {r : Nat} (g sr : BitVec r) (u : Bool) :
    cellsPoly (feed g sr u) =
      X * cellsPoly sr + C (gf2 u) * X ^ r + C (gf2 (u ^^ tapCell sr)) * generatorPoly g := by
  have hcancel : C (gf2 u) * X ^ r + C (gf2 u) * X ^ r = (0 : (ZMod 2)[X]) := CharTwo.add_self_eq_zero _
  rw [cellsPoly_feed, cellsPoly_shiftCells, generatorPoly, gf2_xor, C_add]
  linear_combination -hcancel

/-! ## The remainder (43_lfsr_encoder.md R157) -/

/-- After the information bits the register agrees with u(x) x^r modulo the generator. -/
theorem generatorPoly_dvd_sub_cellsPoly_feedAll {r : Nat} (g : BitVec r) (us : List Bool) :
    generatorPoly g ∣ streamPoly us * X ^ r - cellsPoly (feedAll g 0#r us) := by
  induction us using List.reverseRecOn with
  | nil => simp [feedAll, streamPoly]
  | append_singleton us u ih =>
    have hstep : streamPoly (us ++ [u]) * X ^ r - cellsPoly (feedAll g 0#r (us ++ [u])) =
        X * (streamPoly us * X ^ r - cellsPoly (feedAll g 0#r us)) -
          C (gf2 (u ^^ tapCell (feedAll g 0#r us))) * generatorPoly g := by
      rw [feedAll_concat, cellsPoly_feed_eq, streamPoly_append, streamPoly_singleton, List.length_singleton]
      ring
    rw [hstep]
    exact dvd_sub (dvd_mul_of_dvd_right ih _) (dvd_mul_left _ _)

theorem cellsPoly_feedAll {r : Nat} (g : BitVec r) (us : List Bool) :
    cellsPoly (feedAll g 0#r us) = (streamPoly us * X ^ r) %ₘ generatorPoly g := by
  have hmonic := generatorPoly_monic g
  have hself : cellsPoly (feedAll g 0#r us) %ₘ generatorPoly g = cellsPoly (feedAll g 0#r us) := by
    rw [modByMonic_eq_self_iff hmonic, degree_generatorPoly]
    exact degree_cellsPoly_lt _
  rw [modByMonic_eq_of_dvd_sub hmonic (generatorPoly_dvd_sub_cellsPoly_feedAll g us), hself]

/-- Settles O30: each FEED keeps the register congruent to the bits fed so far, and r cells have a degree below r. -/
theorem registerHoldsRemainder : Obligations.RegisterHoldsRemainder := by
  refine fun r g us => ⟨cellsPoly_feedAll g us, fun j hj => ?_⟩
  rw [← cellsPoly_feedAll, coeff_cellsPoly, parityOf_eq_map]
  simp [hj]

/-! ## Codewords and unit vectors (43_lfsr_encoder.md R158, R162) -/

/-- The cells from r-1 down to 0, as a stream, are the register's polynomial. -/
theorem streamPoly_parityOf {r : Nat} (g : BitVec r) (us : List Bool) :
    streamPoly (parityOf g us) = (streamPoly us * X ^ r) %ₘ generatorPoly g := by
  rw [← cellsPoly_feedAll, streamPoly_eq_polyOf_reverse, cellsPoly_eq_polyOf, parityOf_eq_map]
  congr 1
  refine List.ext_getElem (by simp) fun i hi _ => ?_
  have hi : i < r := by simpa using hi
  simp [show r - 1 - (r - 1 - i) = i by omega]

theorem streamPoly_encodeFrame {r : Nat} (g : BitVec r) (us : List Bool) :
    streamPoly (encodeFrame g us) = streamPoly us * X ^ r + (streamPoly us * X ^ r) %ₘ generatorPoly g := by
  rw [encodeFrame, streamPoly_append, parityOf_length, streamPoly_parityOf]

/-- In characteristic 2 adding the remainder subtracts it. -/
theorem generatorPoly_dvd_encodeFrame {r : Nat} (g : BitVec r) (us : List Bool) :
    generatorPoly g ∣ streamPoly (encodeFrame g us) := by
  rw [streamPoly_encodeFrame, add_comm, ← CharTwo.sub_eq_add]
  exact dvd_modByMonic_sub _ _

/-- Settles O31. -/
theorem codewordsAreDivisible : Obligations.CodewordsAreDivisible :=
  fun _ g us => ⟨streamPoly_encodeFrame g us, generatorPoly_dvd_encodeFrame g us⟩

/-- Settles O33: the last bit leaves the generator's stored coefficients in the register, and the first one is the
highest power of x. -/
theorem unitVectorParities : Obligations.UnitVectorParities := by
  refine fun r g m => ⟨?_, ?_⟩
  · rw [parityOf_eq_map, feedAll_concat, feedAll_replicate_false, feed_zero_true]
  · rw [streamPoly_parityOf, streamPoly_true_cons_replicate_false, pow_add]

end Sys2Proof.Machine
end

section
/-! PROOF. What the frames of a WORK write (44_streaming.md R183, R184), and that each of them is a codeword of its
family (43_lfsr_encoder.md R158 on the whole machine; O38). -/

namespace Sys2Proof.Machine

open Sys2Proof.Safety Polynomial

/-! ## The bytes the frames write (44_streaming.md R183, R184) -/

/-- The symbols frame f of a WORK performed in s reads. -/
def frameInput (s : State) (c : Code) (o : WorkOps) (f : Nat) : List Byte :=
  (List.range c.k.toNat).map fun j => workSymbol s o (f * c.k.toNat + j)

@[simp] theorem frameInput_length (s : State) (c : Code) (o : WorkOps) (f : Nat) :
    (frameInput s c o f).length = c.k.toNat := by
  simp [frameInput]

theorem workBits_eq_map_frameInput (s : State) (c : Code) (o : WorkOps) (f : Nat) :
    workBits s c o f = (frameInput s c o f).map symbolBit := by
  rw [workBits, frameInput, List.map_map, Function.comp_def]

/-- The codeword bytes of frame f of a WORK performed in s. -/
def frameOutput (s : State) (c : Code) (o : WorkOps) (f : Nat) : List Byte :=
  codewordBytes (frameGen s c) (frameInput s c o f)

theorem frameOutput_length {c : Code} (hk : c.k.toNat ≤ c.n.toNat) (s : State) (o : WorkOps) (f : Nat) :
    (frameOutput s c o f).length = c.n.toNat := by
  rw [frameOutput, codewordBytes_length, frameInput_length]
  omega

/-- What the loop leaves as it was after its first m frames, and where the draw counter then stands. -/
theorem forLoop_workFrame_reads (c : Code) (o : WorkOps) (s : State) (m : Nat) :
    (forLoop m (workFrame c o) s).ibuf = s.ibuf ∧ (forLoop m (workFrame c o) s).gen = s.gen ∧
      (forLoop m (workFrame c o) s).draws = s.draws + m * c.k.toNat := by
  refine forLoop_invariant
    (P := fun i (t : State) => t.ibuf = s.ibuf ∧ t.gen = s.gen ∧ t.draws = s.draws + i * c.k.toNat)
    m ⟨rfl, rfl, by simp⟩ fun i t _ ⟨hibuf, hgen, hdraws⟩ => ⟨hibuf, hgen, ?_⟩
  simp only [workFrame, hdraws]
  ring

/-- Frame m stores the codeword of the symbols the whole WORK reads for it. -/
theorem forLoop_workFrame_obuf (c : Code) (o : WorkOps) (s : State) (m : Nat) :
    (forLoop (m + 1) (workFrame c o) s).obuf =
      writeRun (frameOutAddr c o m) (frameOutput s c o m) (forLoop m (workFrame c o) s).obuf := by
  obtain ⟨hibuf, hgen, hdraws⟩ := forLoop_workFrame_reads c o s m
  have hsyms : frameSymbols (forLoop m (workFrame c o) s) c o m = frameInput s c o m := by
    simp only [frameSymbols, readBytes, frameInput, workSymbol, frameInAddr, hibuf, hdraws, Nat.add_assoc]
  rw [forLoop, workFrame, hsyms, frameGen, hgen, frameOutput, frameGen]

/-- Each frame's bytes stand at its addresses: no later frame writes there. -/
theorem memRead_forLoop_workFrame {c : Code} (hk : c.k.toNat ≤ c.n.toNat) (o : WorkOps) (s : State) {m f i : Nat}
    (hf : f < m) (hi : i < c.n.toNat) :
    memRead (forLoop m (workFrame c o) s).obuf (frameOutAddr c o f + i) = (frameOutput s c o f)[i]? := by
  induction m with
  | zero => omega
  | succ m ih =>
    rw [forLoop_workFrame_obuf]
    obtain hlt | rfl := Nat.lt_succ_iff_lt_or_eq.1 hf
    · have hbefore : f * c.n.toNat + c.n.toNat ≤ m * c.n.toNat := by
        rw [← Nat.succ_mul]
        exact Nat.mul_le_mul_right _ hlt
      rw [memRead_writeRun_outside _ (.inl (by simp only [frameOutAddr]; omega)), ih hlt]
    · rw [memRead_writeRun_inside _ (by omega) (by rw [frameOutput_length hk]; omega), Nat.add_sub_cancel_left]

/-- OBUF holds each frame's codeword bytes after an admitted WORK. -/
theorem outputFrame_work {c : Code} (hk : c.k.toNat ≤ c.n.toNat) (o : WorkOps) (s : State) {f : Nat}
    (hf : f < frameCount c o) : outputFrame (s.work c o).clearPend c o f = frameOutput s c o f := by
  refine List.ext_getElem (by simp [outputFrame, frameOutput_length hk]) fun i hi h2 => ?_
  have hi : i < c.n.toNat := by simpa [outputFrame] using hi
  have hread : memRead (s.work c o).obuf (frameOutAddr c o f + i) = (frameOutput s c o f)[i]? :=
    memRead_forLoop_workFrame hk o s hf hi
  simp [outputFrame, hread, h2]

theorem exec_work_of_active {s : State} {eof : Bool} {c : Code} (hm : s.mode = .active) (hc : s.code = some c)
    (hr : inRange s.params (s.workOps eof) = true) :
    exec (.work eof) s = .next (s.work c (s.workOps eof)).clearPend := by
  simp [exec, execWork, admissionError_work, hm, hc, hr]

/-! ## The generator of a family (42_generator_table.md R132) -/

theorem genCells_getLsbD (r : Nat) (ws : List Word) {j : Nat} (hj : j < r) :
    (genCells r ws).getLsbD j = packedBit ws j := by
  rw [genCells, BitVec.getLsbD_setWidth, BitVec.getLsbD_ofBoolListLE]
  simp [hj]

/-- No running product has a trailing zero. -/
theorem foldl_polyMul_getLast?_ne {p : Poly} (hp : p.getLast? ≠ some false) (factors : List Poly) :
    (factors.foldl polyMul p).getLast? ≠ some false := by
  induction factors generalizing p with
  | nil => exact hp
  | cons phi factors ih => exact ih (polyMul_getLast?_ne p phi)

theorem productOfFirst_getLast?_ne (factors : List Poly) (i : Nat) :
    (productOfFirst factors i).getLast? ≠ some false :=
  foldl_polyMul_getLast?_ne (by simp) _

/-- A vector of r + 1 coefficients without a trailing zero is the generator of the register that holds its first r. -/
theorem generatorPoly_eq_polyOf {r : Nat} {g : BitVec r} {p : Poly} (hlen : p.length = r + 1)
    (hlast : p.getLast? ≠ some false) (hg : ∀ j, j < r → g.getLsbD j = polyCoeff p j) : generatorPoly g = polyOf p := by
  have htop : polyCoeff p r = true := by
    rw [List.getLast?_eq_getElem?, hlen, Nat.add_sub_cancel] at hlast
    simpa [polyCoeff, List.getD_eq_getElem?_getD, hlen] using hlast
  ext j
  rw [generatorPoly, coeff_add, coeff_X_pow, coeff_cellsPoly, coeff_polyOf]
  obtain h | rfl | h := Nat.lt_trichotomy j r
  · rw [if_neg h.ne, zero_add, hg j h]
  · rw [if_pos rfl, BitVec.getLsbD_of_ge g j le_rfl, htop, gf2_false, gf2_true, add_zero]
  · rw [if_neg h.ne', BitVec.getLsbD_of_ge g j h.le, polyCoeff, List.getD_eq_default _ _ (by omega), gf2_false,
      add_zero]

/-- In a state that meets the invariant, the generator a frame is encoded with is the product of its family's
factors. -/
theorem generatorPoly_frameGen {s : State} {c : Code} (hinv : Inv s) (hm : s.mode = .active) (hc : s.code = some c) :
    generatorPoly (frameGen s c) =
      polyOf (productOfFirst (s.rom.factors.get c.fam) (s.rom.factors.get c.fam).length) := by
  obtain ⟨-, -, hr⟩ := hinv.code c hc
  obtain ⟨⟨-, hdegree, -⟩, hwords⟩ := buildFamily_eq_some_iff.1 (hinv.gen (.inr hm) c.fam)
  rw [DegreeDiffers, not_not, ← hr] at hdegree
  refine generatorPoly_eq_polyOf hdegree (productOfFirst_getLast?_ne _ _) fun j hj => ?_
  rw [frameGen, genCells_getLsbD _ _ hj, hwords, packedBit_pack, polyCoeff_take, ← hr, decide_eq_true hj, Bool.true_and]

/-- Settles O38: OBUF holds each frame's codeword, and the generator of the codewords is the product of the factors. -/
theorem workOutputsCodewords : Obligations.WorkOutputsCodewords := by
  rintro s eof c _ hinv hc rfl hr
  have hm : s.mode = .active := hinv.activeIffCode.2 (by simp [hc])
  obtain ⟨-, hkn, -⟩ := hinv.code c hc
  refine ⟨_, exec_work_of_active hm hc hr, fun f hf => ?_⟩
  rw [outputFrame_work hkn.le _ s hf, frameOutput, codewordBytes_bits, ← generatorPoly_frameGen hinv hm hc]
  exact generatorPoly_dvd_encodeFrame _ _

end Sys2Proof.Machine
end

section
/-! PROOF. What a command leaves as it was (O44), NOP (O12), and the effect of an admitted WORK (44_streaming.md R180 to
R189): its reports and flags (O34), its frame (O35), the bytes it stores (O36, O37), SYM (O39), and a WORK with no whole
frame (O40). -/

namespace Sys2Proof.Machine

open Sys2Proof.Safety

/-! ## Every command (30_encoding.md R87; 44_streaming.md R190, R192) -/

/-- Settles O12: outside INIT nothing turns NOP away. -/
theorem nopChangesOnlyPend : Obligations.NopChangesOnlyPend := by
  intro s hm
  rw [exec, execNop, admissionError_nop, if_neg hm]
  rfl

/-- Settles O44: every command answers a next state, and exec_changes names all that it can change. -/
theorem commandsLeaveHostState : Obligations.CommandsLeaveHostState := by
  intro i s
  obtain ⟨t, ht⟩ := exec_next i s
  refine ⟨t, ht, ?_⟩
  rw [exec_changes ht]
  simp

/-! ## Operands and addresses (20_memory.md R76; 44_streaming.md R183, R193) -/

/-- A WORK is performed with the EOF bit of its word. -/
@[simp] theorem workOps_eof (s : State) (eof : Bool) : (s.workOps eof).eof = eof := by
  unfold State.workOps
  split <;> rfl

theorem inRange_iff {p : Params} {o : WorkOps} :
    inRange p o = true ↔
      o.inBase.toNat + o.inAvail.toNat ≤ p.ibufBytes ∧ o.outBase.toNat + o.outSpace.toNat ≤ p.obufBytes := by
  simp [inRange]

theorem frameOutAddr_add_le_outputEnd {c : Code} {o : WorkOps} {f : Nat} (hf : f < frameCount c o) :
    frameOutAddr c o f + c.n.toNat ≤ outputEnd c o := by
  have h : c.n.toNat * (f + 1) ≤ c.n.toNat * frameCount c o := Nat.mul_le_mul_left _ hf
  rw [Nat.mul_succ, Nat.mul_comm _ f] at h
  simp only [frameOutAddr, outputEnd]
  omega

/-- The symbols of the first m frames of k symbols are those of the first frames and those of the last one. -/
theorem exists_symbol_succ_iff {p : Nat → Prop} {k m : Nat} :
    (∃ j, j < k * (m + 1) ∧ p j) ↔ (∃ j, j < k * m ∧ p j) ∨ ∃ j, j < k ∧ p (m * k + j) := by
  rw [Nat.mul_succ, Nat.mul_comm m k]
  constructor
  · rintro ⟨j, hj, hp⟩
    obtain hlt | hge := Nat.lt_or_ge j (k * m)
    · exact .inl ⟨j, hlt, hp⟩
    · exact .inr ⟨j - k * m, by omega, by rwa [Nat.add_sub_cancel' hge]⟩
  · rintro (⟨j, hj, hp⟩ | ⟨j, hj, hp⟩)
    · exact ⟨j, by omega, hp⟩
    · exact ⟨k * m + j, by omega, hp⟩

/-- Every symbol of a whole frame is one of the consumed symbols. -/
theorem symbol_lt_consumed {k f j F : Nat} (hf : f < F) (hj : j < k) : f * k + j < k * F := by
  have h : k * (f + 1) ≤ k * F := Nat.mul_le_mul_left _ hf
  rw [Nat.mul_succ, Nat.mul_comm k f] at h
  omega

/-! ## Reports and flags (44_streaming.md R181, R185 to R187) -/

theorem frameCount_lt (c : Code) (o : WorkOps) : frameCount c o < 2 ^ 32 :=
  calc frameCount c o ≤ o.inAvail.toNat / c.k.toNat := Nat.min_le_left _ _
    _ ≤ o.inAvail.toNat := Nat.div_le_self _ _
    _ < 2 ^ 32 := o.inAvail.isLt

theorem work_frames_toNat (s : State) (c : Code) (o : WorkOps) : (s.work c o).frames.toNat = frameCount c o :=
  Nat.mod_eq_of_lt (frameCount_lt c o)

theorem work_consumed_toNat (s : State) (c : Code) (o : WorkOps) :
    (s.work c o).consumed.toNat = c.k.toNat * frameCount c o :=
  Nat.mod_eq_of_lt ((mul_frameCount_le_avail c o).trans_lt o.inAvail.isLt)

theorem work_produced_toNat (s : State) (c : Code) (o : WorkOps) :
    (s.work c o).produced.toNat = c.n.toNat * frameCount c o :=
  Nat.mod_eq_of_lt ((mul_frameCount_le_space c o).trans_lt o.outSpace.isLt)

theorem drainedFlag_iff {eof : Bool} {rem : Nat} : drainedFlag eof rem = true ↔ eof = true ∧ rem = 0 := by
  simp [drainedFlag]

theorem stallFlag_iff {eof : Bool} {rem k : Nat} : stallFlag eof rem k = true ↔ eof = true ∧ 0 < rem ∧ rem < k := by
  simp [stallFlag, and_assoc]

/-- Settles O34: the reports fit their registers, and what is left is IN_AVAIL - CONSUMED. -/
theorem workReportsAndFlags : Obligations.WorkReportsAndFlags := by
  rintro s eof c _ hm hc rfl hin hout
  refine ⟨_, exec_work_of_active hm hc (inRange_iff.2 ⟨hin, hout⟩), rfl, work_frames_toNat s c _, ?_⟩
  simp only [State.clearPend_frames, State.clearPend_consumed, State.clearPend_produced, State.clearPend_drained,
    State.clearPend_stall, work_frames_toNat, work_consumed_toNat, work_produced_toNat, true_and]
  refine ⟨drainedFlag_iff.trans ?_, stallFlag_iff.trans ?_⟩ <;> rw [workOps_eof, remainder]

/-- With IN_AVAIL < k or OUT_SPACE < n no whole frame fits. -/
theorem frameCount_eq_zero {c : Code} {o : WorkOps}
    (h : o.inAvail.toNat < c.k.toNat ∨ o.outSpace.toNat < c.n.toNat) : frameCount c o = 0 := by
  rcases h with h | h <;> simp [frameCount, Nat.div_eq_of_lt h]

/-- Settles O40: the loop over no frame leaves the state, and all the input is left over. -/
theorem workWithoutWholeFrame : Obligations.WorkWithoutWholeFrame := by
  rintro s eof c _ hm hc rfl hr hsmall
  have h0 := frameCount_eq_zero hsmall
  have hframes : workFrames c (s.workOps eof) s = s := by rw [workFrames, h0, forLoop]
  rw [exec_work_of_active hm hc hr, State.work, hframes, h0, remainder, h0, Nat.mul_zero, Nat.sub_zero, drainedFlag,
    stallFlag, workOps_eof]
  rfl

/-! ## The bytes a WORK stores (44_streaming.md R182 to R184, R188, R189) -/

/-- Outside the first PRODUCED bytes of its output window a WORK leaves OBUF. -/
theorem memRead_work_outside {c : Code} (hk : c.k.toNat ≤ c.n.toNat) (s : State) {o : WorkOps} {a : Nat}
    (ha : a < o.outBase.toNat ∨ outputEnd c o ≤ a) : memRead (s.work c o).obuf a = memRead s.obuf a := by
  refine forLoop_invariant (P := fun _ t => memRead t.obuf a = memRead s.obuf a) (f := workFrame c o)
    (frameCount c o) rfl fun f t hf ht => (memRead_writeRun_outside _ ?_).trans ht
  have hend := frameOutAddr_add_le_outputEnd hf
  rw [frame_length hk]
  simp only [frameOutAddr] at hend ⊢
  omega

/-- In each frame's bytes a WORK leaves the frame's codeword. -/
theorem memRead_work_inside {c : Code} (hk : c.k.toNat ≤ c.n.toNat) (s : State) {o : WorkOps} {f i : Nat}
    (hf : f < frameCount c o) (hi : i < c.n.toNat) :
    memRead (s.work c o).obuf (frameOutAddr c o f + i) = (frameOutput s c o f)[i]? :=
  memRead_forLoop_workFrame hk o s hf hi

theorem frameOutput_symbol (s : State) {c : Code} (o : WorkOps) (f : Nat) {j : Nat} (hj : j < c.k.toNat) :
    (frameOutput s c o f)[j]? = some (workSymbol s o (f * c.k.toNat + j)) := by
  rw [frameOutput, codewordBytes, List.getElem?_append_left (by simpa using hj)]
  simp [frameInput, hj]

theorem frameOutput_parity (s : State) {c : Code} (o : WorkOps) (f : Nat) {j : Nat}
    (hj : j < c.n.toNat - c.k.toNat) :
    (frameOutput s c o f)[c.k.toNat + j]? =
      some (parityByte ((parityOf (frameGen s c) (workBits s c o f)).getD j false)) := by
  rw [frameOutput, codewordBytes, List.getElem?_append_right (by simp), frameInput_length, Nat.add_sub_cancel_left,
    ← workBits_eq_map_frameInput]
  simp [hj]

/-- Settles O36. -/
theorem workCopiesSymbols : Obligations.WorkCopiesSymbols := by
  rintro s eof c _ hm hc rfl hk hr
  refine ⟨_, exec_work_of_active hm hc hr, fun f hf j hj => ?_⟩
  exact (memRead_work_inside hk s hf (hj.trans_le hk)).trans (frameOutput_symbol s _ f hj)

/-- Settles O37. -/
theorem workWritesParity : Obligations.WorkWritesParity := by
  rintro s eof c _ hm hc rfl hk hr
  refine ⟨_, exec_work_of_active hm hc hr, fun f hf j hj => ?_⟩
  rw [Nat.add_assoc]
  exact (memRead_work_inside hk s hf (by omega)).trans (frameOutput_parity s _ f hj)

/-- Settles O35: State.work_eq names what a WORK can change, and its frames lie in the output window. -/
theorem workLeavesTheRest : Obligations.WorkLeavesTheRest := by
  rintro s eof c _ hm hc rfl hk hr
  refine ⟨_, exec_work_of_active hm hc hr, ?_⟩
  have hobuf := fun a => memRead_work_outside hk s (o := s.workOps eof) (a := a)
  rw [State.work_eq] at hobuf ⊢
  exact ⟨rfl, rfl, rfl, rfl, rfl, rfl, rfl, rfl, rfl, rfl, rfl, rfl, rfl, rfl, rfl, rfl, rfl, rfl, rfl,
    workFrames_err c _ s, hobuf⟩

/-! ## SYM (44_streaming.md R188; 60_exceptions.md R215) -/

theorem badSymbol_iff {b : Byte} : badSymbol b = true ↔ 1 < b.toNat := by
  simp [badSymbol, BitVec.lt_def]

/-- Frame m reads the symbols the whole WORK reads for it. -/
theorem frameSymbols_forLoop_workFrame (c : Code) (o : WorkOps) (s : State) (m : Nat) :
    frameSymbols (forLoop m (workFrame c o) s) c o m = frameInput s c o m := by
  obtain ⟨hibuf, -, hdraws⟩ := forLoop_workFrame_reads c o s m
  simp only [frameSymbols, readBytes, frameInput, workSymbol, frameInAddr, hibuf, hdraws, Nat.add_assoc]

/-- A frame raises SYM for a symbol other than 0 and 1, and clears it never. -/
theorem workFrame_hasErr_sym (c : Code) (o : WorkOps) (f : Nat) (s : State) :
    (workFrame c o f s).hasErr .sym = true ↔ s.hasErr .sym = true ∨ ∃ b ∈ frameSymbols s c o f, badSymbol b = true := by
  rw [← List.any_eq_true]
  show (State.raiseIf s _ .sym).hasErr .sym = true ↔ _
  cases (frameSymbols s c o f).any badSymbol <;> simp [State.hasErr, errMask_getLsbD]

/-- SYM after the first m frames. -/
theorem forLoop_workFrame_hasErr_sym (c : Code) (o : WorkOps) (s : State) (m : Nat) :
    (forLoop m (workFrame c o) s).hasErr .sym = true ↔
      s.hasErr .sym = true ∨ ∃ j, j < c.k.toNat * m ∧ 1 < (workSymbol s o j).toNat := by
  induction m with
  | zero => simp [forLoop]
  | succ m ih =>
    rw [forLoop, workFrame_hasErr_sym, ih, exists_symbol_succ_iff, frameSymbols_forLoop_workFrame, or_assoc]
    simp [frameInput, badSymbol_iff]

/-- Settles O39. -/
theorem symMarksBadSymbols : Obligations.SymMarksBadSymbols := by
  rintro s eof c _ hm hc rfl hr
  exact ⟨_, exec_work_of_active hm hc hr, forLoop_workFrame_hasErr_sym c _ s _⟩

end Sys2Proof.Machine
end

section
/-! PROOF. What a WORK reads (44_streaming.md R182): IBUF outside the consumed symbols has no influence (O43), and on
stored symbols a repeated WORK leaves the output of the first (O41). -/

namespace Sys2Proof.Machine

open Sys2Proof.Safety

/-! ## A WORK with another IBUF (44_streaming.md R182) -/

/-- The state with another content of IBUF. -/
def State.withIbuf (s : State) (m : List Host.Cell) : State := { s with ibuf := m }

theorem workFrame_withIbuf {c : Code} {o : WorkOps} {f : Nat} {s : State} {m : List Host.Cell}
    (h : ∀ j, j < c.k.toNat → memRead m (frameInAddr c o f + j) = memRead s.ibuf (frameInAddr c o f + j)) :
    workFrame c o f (s.withIbuf m) = (workFrame c o f s).withIbuf m := by
  have hsyms : frameSymbols (s.withIbuf m) c o f = frameSymbols s c o f :=
    List.map_congr_left fun j hj => congrArg (Option.getD · _) (h j (List.mem_range.1 hj))
  rw [workFrame, hsyms]
  rfl

/-- The frames read no symbol but the consumed ones. -/
theorem workFrames_withIbuf {c : Code} {o : WorkOps} {s : State} {m : List Host.Cell}
    (h : ∀ j, j < c.k.toNat * frameCount c o →
      memRead m (o.inBase.toNat + j) = memRead s.ibuf (o.inBase.toNat + j)) :
    workFrames c o (s.withIbuf m) = (workFrames c o s).withIbuf m := by
  suffices ∀ i ≤ frameCount c o,
      forLoop i (workFrame c o) (s.withIbuf m) = (forLoop i (workFrame c o) s).withIbuf m from this _ le_rfl
  intro i hi
  induction i with
  | zero => rfl
  | succ i ih =>
    obtain ⟨hibuf, -, -⟩ := forLoop_workFrame_reads c o s i
    rw [forLoop, ih (by omega), forLoop]
    refine workFrame_withIbuf fun j hj => ?_
    rw [hibuf, frameInAddr, Nat.add_assoc]
    exact h _ (symbol_lt_consumed hi hj)

/-- Settles O43: a WORK turned away reads nothing, and an admitted one only its frames' symbols. -/
theorem workReadsOnlyConsumedInput : Obligations.WorkReadsOnlyConsumedInput := by
  intro s t eof c m hc h hexec
  change exec (.work eof) (s.withIbuf m) = .next (t.withIbuf m)
  have hadmission : admissionError (s.withIbuf m) (.work eof) (s.workOps eof) =
      admissionError s (.work eof) (s.workOps eof) := rfl
  have hops : (s.withIbuf m).workOps eof = s.workOps eof := rfl
  have hcode : (s.withIbuf m).code = some c := hc
  simp only [exec, execWork, hops, hadmission, hc, hcode] at hexec ⊢
  cases hadm : admissionError s (.work eof) (s.workOps eof) with
  | some e =>
    simp only [hadm] at hexec ⊢
    rw [← Host.Outcome.next.inj hexec]
    rfl
  | none =>
    simp only [hadm] at hexec ⊢
    rw [← Host.Outcome.next.inj hexec, State.work, workFrames_withIbuf h]
    rfl

/-! ## A WORK repeated (44_streaming.md R191; 43_lfsr_encoder.md R160) -/

/-- The codeword of a frame depends on GEN and on the frame's symbols alone. -/
theorem frameOutput_congr {s t : State} {c : Code} {o : WorkOps} {f : Nat} (hgen : t.gen = s.gen)
    (h : ∀ j, j < c.k.toNat → workSymbol t o (f * c.k.toNat + j) = workSymbol s o (f * c.k.toNat + j)) :
    frameOutput t c o f = frameOutput s c o f := by
  have hinput : frameInput t c o f = frameInput s c o f :=
    List.map_congr_left fun j hj => h j (List.mem_range.1 hj)
  rw [frameOutput, frameOutput, hinput, frameGen, frameGen, hgen]

/-- The symbol at a stored byte is this byte, whatever the draws. -/
theorem workSymbol_congr {s t : State} {o : WorkOps} {j : Nat} (hibuf : t.ibuf = s.ibuf)
    (h : memRead s.ibuf (o.inBase.toNat + j) ≠ none) : workSymbol t o j = workSymbol s o j := by
  obtain ⟨b, hb⟩ := Option.ne_none_iff_exists'.1 h
  rw [workSymbol, workSymbol, hibuf, hb, Option.getD_some, Option.getD_some]

/-- A byte of the output window that a WORK stores is a byte of one of its frames. -/
theorem exists_frame_of_mem_output {c : Code} {o : WorkOps} {a : Nat} (hlo : o.outBase.toNat ≤ a)
    (hhi : a < outputEnd c o) : ∃ f i, f < frameCount c o ∧ i < c.n.toNat ∧ a = frameOutAddr c o f + i := by
  obtain ⟨d, rfl⟩ := Nat.exists_eq_add_of_le hlo
  have hd : d < c.n.toNat * frameCount c o := by simpa [outputEnd] using hhi
  have hn : 0 < c.n.toNat := Nat.pos_of_mul_pos_right (Nat.zero_lt_of_lt hd)
  refine ⟨d / c.n.toNat, d % c.n.toNat, Nat.div_lt_of_lt_mul hd, Nat.mod_lt _ hn, ?_⟩
  rw [frameOutAddr, Nat.add_assoc, Nat.div_add_mod']

/-- Two WORKs whose frames have the same codewords leave the same OBUF, when the second starts from the OBUF of the
first. -/
theorem memRead_work_work {c : Code} {o : WorkOps} (hk : c.k.toNat ≤ c.n.toNat) {s t : State}
    (hobuf : t.obuf = (s.work c o).obuf)
    (hout : ∀ f, f < frameCount c o → frameOutput t c o f = frameOutput s c o f) (a : Nat) :
    memRead (t.work c o).obuf a = memRead t.obuf a := by
  by_cases ha : o.outBase.toNat ≤ a ∧ a < outputEnd c o
  · obtain ⟨f, i, hf, hi, rfl⟩ := exists_frame_of_mem_output ha.1 ha.2
    rw [memRead_work_inside hk t hf hi, hout f hf, hobuf, memRead_work_inside hk s hf hi]
  · exact memRead_work_outside hk t (by omega)

/-- Settles O41: the first WORK leaves IBUF and GEN, so the second stores the same codewords. -/
theorem repeatedWorkRepeatsOutput : Obligations.RepeatedWorkRepeatsOutput := by
  rintro s t u eof c o hm hc ho hk hr hstored ht hu a
  have heof : o.eof = eof := ho ▸ workOps_eof s eof
  have hfirst := exec_work_of_active hm hc (ho ▸ hr)
  rw [ht, ho] at hfirst
  have ht' := Host.Outcome.next.inj hfirst
  obtain ⟨hm', hc', hp', hibuf, hgen⟩ :
      t.mode = s.mode ∧ t.code = s.code ∧ t.params = s.params ∧ t.ibuf = s.ibuf ∧ t.gen = s.gen := by
    rw [ht', State.work_eq]
    exact ⟨rfl, rfl, rfl, rfl, rfl⟩
  have hobuf : t.obuf = (s.work c o).obuf := by rw [ht', State.clearPend_obuf]
  have ho' : State.workOps { t with pend := some (.work o) } eof = o := by rw [← heof]; rfl
  have hsecond := exec_work_of_active (s := { t with pend := some (.work o) }) (eof := eof) (hm'.trans hm)
    (hc'.trans hc) (by rw [ho', hp', hr])
  rw [hu, ho'] at hsecond
  rw [Host.Outcome.next.inj hsecond]
  refine memRead_work_work hk (t := { t with pend := some (.work o) }) hobuf (fun f hf => ?_) a
  exact frameOutput_congr hgen fun j hj => workSymbol_congr hibuf (hstored _ (symbol_lt_consumed hf hj))

end Sys2Proof.Machine
end

section
/-! PROOF. The frame of WORK done at once is the pseudocode's loop over symbols (44_streaming.md R184; O42). -/

namespace Sys2Proof.Machine

/-! ## Runs of bytes on a buffer in canonical form (20_memory.md R69) -/

theorem memRead_eq_some_iff {m : List Host.Cell} (h : memWf m) {a : Nat} {b : Byte} :
    memRead m a = some b ↔ (a, b) ∈ m := by
  induction m with
  | nil => simp [memRead]
  | cons cell m ih =>
    obtain ⟨k, x⟩ := cell
    obtain ⟨hk, hm⟩ := List.pairwise_cons.1 h
    rw [memRead, List.mem_cons, Prod.mk.injEq]
    by_cases hka : k = a
    · subst hka
      have hnot : (k, b) ∉ m := fun hb => Nat.lt_irrefl k (hk k (List.mem_map_of_mem hb))
      simp [hnot, eq_comm]
    · rw [if_neg hka, ih hm]
      simp [Ne.symm hka]

/-- A buffer in canonical form is determined by what it reads as. -/
theorem eq_of_memRead_eq {m m' : List Host.Cell} (h : memWf m) (h' : memWf m')
    (hread : ∀ a, memRead m a = memRead m' a) : m = m' := by
  have hnodup {l : List Host.Cell} (hl : memWf l) : l.Nodup := List.Nodup.of_map Prod.fst (hl.imp Nat.ne_of_lt)
  refine List.Perm.eq_of_pairwise (le := fun c d => c.1 < d.1) (fun c d _ _ hcd hdc => absurd hcd (Nat.lt_asymm hdc))
    (List.pairwise_map.1 h) (List.pairwise_map.1 h') ?_
  refine (List.perm_ext_iff_of_nodup (hnodup h) (hnodup h')).2 fun ⟨a, b⟩ => ?_
  rw [← memRead_eq_some_iff h, ← memRead_eq_some_iff h', hread]

theorem writeRun_nil {m : List Host.Cell} (h : memWf m) (base : Nat) : writeRun base [] m = m :=
  eq_of_memRead_eq (writeRun_wf h) h fun a => memRead_writeRun_outside m (by simp; omega)

/-- A run may be written in two parts, the first part first. -/
theorem writeRun_append {m : List Host.Cell} (h : memWf m) (base : Nat) (xs ys : List Byte) :
    writeRun base (xs ++ ys) m = writeRun (base + xs.length) ys (writeRun base xs m) := by
  refine eq_of_memRead_eq (writeRun_wf h) (writeRun_wf (writeRun_wf h)) fun a => ?_
  simp only [memRead_writeRun, List.length_append, List.getElem?_append]
  by_cases hlo : base ≤ a
  · by_cases hmid : a < base + xs.length
    · simp [hlo, hmid, show ¬ base + xs.length ≤ a by omega, show a - base < xs.length by omega,
        show a < base + (xs.length + ys.length) by omega]
    · simp [hlo, hmid, show base + xs.length ≤ a by omega, show ¬ a - base < xs.length by omega, Nat.sub_sub,
        Nat.add_assoc]
  · simp [hlo, show ¬ base + xs.length ≤ a by omega]

/-! ## The two phases of a frame (44_streaming.md R184) -/

theorem parityRun_succ {r : Nat} (m : Nat) (sr : BitVec r) :
    parityRun (m + 1) sr = ((parityRun m sr).1 ++ [tapCell (parityRun m sr).2], shiftCells (parityRun m sr).2) := by
  rw [parityRun_eq, parityRun_eq, List.range_succ, List.map_append, shiftCells, BitVec.shiftLeft_add]
  rfl

/-- ERR after the symbols were checked one by one. -/
def errAfter (syms : List Byte) (err : BitVec 7) : BitVec 7 := if syms.any badSymbol then err ||| errMask .sym else err

theorem errAfter_concat (syms : List Byte) (b : Byte) (err : BitVec 7) :
    errAfter (syms ++ [b]) err =
      if badSymbol b then errAfter syms err ||| errMask .sym else errAfter syms err := by
  cases hb : badSymbol b <;> cases hs : syms.any badSymbol <;> simp [errAfter, hb, hs, BitVec.or_assoc]

/-- What a frame has done after its first symbols: they are checked, copied and fed. -/
def afterSymbols {r : Nat} (g : BitVec r) (outAddr : Nat) (syms : List Byte) (s : State) : State × BitVec r :=
  ({ s with
      obuf := writeRun outAddr syms s.obuf, err := errAfter syms s.err, draws := s.draws + syms.length },
    feedAll g 0#r (syms.map symbolBit))

/-- The loop's next symbol comes after the symbols before it. -/
theorem infoSymbol_afterSymbols {r : Nat} (g : BitVec r) (inAddr outAddr : Nat) {s : State} (h : memWf s.obuf)
    (syms : List Byte) :
    infoSymbol g inAddr outAddr syms.length (afterSymbols g outAddr syms s) =
      afterSymbols g outAddr (syms ++ [(memRead s.ibuf (inAddr + syms.length)).getD
        (Config.freeByte (s.draws + syms.length))]) s := by
  rw [afterSymbols, afterSymbols, writeRun_append h, errAfter_concat, List.map_append, List.map_singleton,
    feedAll_concat, List.length_append]
  rfl

theorem readBytes_succ (m : List Host.Cell) (a n d : Nat) :
    readBytes m a (n + 1) d = readBytes m a n d ++ [(memRead m (a + n)).getD (Config.freeByte (d + n))] := by
  simp [readBytes, List.range_succ]

theorem forLoop_infoSymbol {r : Nat} (g : BitVec r) (inAddr outAddr : Nat) {s : State} (h : memWf s.obuf) (m : Nat) :
    forLoop m (infoSymbol g inAddr outAddr) (s, 0#r) =
      afterSymbols g outAddr (readBytes s.ibuf inAddr m s.draws) s := by
  induction m with
  | zero => simp [forLoop, afterSymbols, errAfter, readBytes, writeRun_nil h, feedAll]
  | succ m ih =>
    have hnext := infoSymbol_afterSymbols g inAddr outAddr h (readBytes s.ibuf inAddr m s.draws)
    rw [readBytes_length] at hnext
    rw [forLoop, ih, hnext, readBytes_succ]

/-- What the parity phase has done after its first m symbols. -/
theorem forLoop_paritySymbol {r : Nat} (outAddr k : Nat) {s : State} (h : memWf s.obuf) (sr : BitVec r) (m : Nat) :
    forLoop m (paritySymbol outAddr k) (s, sr) =
      ({ s with obuf := writeRun (outAddr + k) ((parityRun m sr).1.map parityByte) s.obuf }, (parityRun m sr).2) := by
  induction m with
  | zero => simp [forLoop, parityRun, writeRun_nil h]
  | succ m ih =>
    rw [forLoop, ih, parityRun_succ, List.map_append, writeRun_append h, List.length_map, parityRun_length]
    rfl

/-- Settles O42: the symbols' run and the parity's run make the frame's run. -/
theorem workFrameIsTheSymbolLoop : Obligations.WorkFrameIsTheSymbolLoop := by
  intro s c o f h
  simp only [workFrameBySymbol, workFrame, codewordBytes, writeRun_append h, frameSymbols_length]
  rw [forLoop_infoSymbol _ _ _ h, afterSymbols, forLoop_paritySymbol _ _ (writeRun_wf h), readBytes_length]
  rfl

end Sys2Proof.Machine
end

section
/-! PROOF. Errors and traps (60_exceptions.md): the command that its state turns away (O8), the pending command (O9),
clearing SYM around the completion that sets it (O10), and what only reset leaves (O11). -/

namespace Sys2Proof.Machine

open Sys2Proof.Safety

/-! ## Admission when a command is performed (30_encoding.md R86; log entry 14) -/

/-- The operands exec makes its admission checks with. -/
def State.execOps (s : State) : Instr → WorkOps
  | .nop => s.snapshot false
  | .cfg _ _ => s.snapshot false
  | .work eof => s.workOps eof

/-- A command that the checks turn away sets its error and ends PEND. -/
theorem exec_of_error {i : Instr} {s : State} {e : ErrBit} (h : admissionError s i (s.execOps i) = some e) :
    exec i s = .next (s.turnAway e) := by
  cases i with
  | nop => simp only [State.execOps] at h; simp only [exec, execNop, h]
  | cfg cls rate => simp only [State.execOps] at h; simp only [exec, execCfg, h]
  | work eof => simp only [State.execOps] at h; simp only [exec, execWork, h]

theorem admissionError_nop_eq_none_iff {s : State} {o : WorkOps} :
    admissionError s .nop o = none ↔ s.mode ≠ .init := by
  rw [admissionError_nop]
  cases s.mode <;> simp

theorem admissionError_cfg_eq_none_iff {s : State} {cls : BitVec 2} {rate : BitVec 6} {o : WorkOps} :
    admissionError s (.cfg cls rate) o = none ↔ s.mode = .idle ∨ s.mode = .active := by
  rw [admissionError_cfg]
  cases s.mode <;> simp

theorem admissionError_work_eq_none_iff {s : State} {eof : Bool} {o : WorkOps} :
    admissionError s (.work eof) o = none ↔ s.mode = .active ∧ inRange s.params o = true := by
  rw [admissionError_work]
  cases s.mode <;> simp

/-- Settles O8: each clause names the error of the admission checks. -/
theorem commandsTurnedAway : Obligations.CommandsTurnedAway := by
  intro s
  refine ⟨fun hm i => ?_, fun hm i hi => ?_, fun hm eof => ?_, fun hm eof hout => ?_⟩
  · exact exec_of_error (e := .ovr) (if_pos hm)
  · exact exec_of_error (e := .nocfg) (by simp [admissionError, hm, hi])
  · exact exec_of_error (e := .nocfg) (by simp [admissionError_work, hm])
  · have hr : ¬ inRange s.params (s.workOps eof) = true := by rw [inRange_iff]; omega
    exact exec_of_error (e := .range) (by simp [admissionError_work, hm, State.execOps, hr])

/-! ## ERR around a command (60_exceptions.md R220, R221) -/

/-- A WORK pending is performed with the operands it was latched with. -/
theorem workOps_of_pending {s : State} {o : WorkOps} (hp : s.pend = some (.work o)) : s.workOps o.eof = o := by
  simp only [State.workOps, hp]

/-- Settles O9: the invariant says that the pending command is still admitted, and only the frames of a WORK touch
ERR. -/
theorem acceptedCommandRaisesOnlySym : Obligations.AcceptedCommandRaisesOnlySym := by
  intro s p hinv hp
  have hadm := hinv.pend p hp
  cases p with
  | nop => exact ⟨_, nopChangesOnlyPend s (admissionError_nop_eq_none_iff.1 hadm), rfl, .inl rfl⟩
  | cfg cls rate => exact ⟨_, exec_cfg_of_ready (admissionError_cfg_eq_none_iff.1 hadm) cls rate, rfl, .inl rfl⟩
  | work o =>
    obtain ⟨hm, hr⟩ := admissionError_work_eq_none_iff.1 hadm
    obtain ⟨c, hc⟩ := Option.ne_none_iff_exists'.1 (hinv.activeIffCode.1 hm)
    have hops := workOps_of_pending hp
    have hexec := exec_work_of_active hm hc (hops.symm ▸ hr)
    rw [hops] at hexec
    exact ⟨_, hexec, rfl, (workFrames_err c o s).imp_right fun herr => ⟨⟨o, rfl⟩, herr⟩⟩

/-- SYM after a WORK: set before, or raised by a consumed symbol other than 0 and 1 (44_streaming.md R188). -/
theorem work_hasErr_sym (s : State) (c : Code) (o : WorkOps) :
    (s.work c o).hasErr .sym = true ↔
      s.hasErr .sym = true ∨ ∃ j, j < c.k.toNat * frameCount c o ∧ 1 < (workSymbol s o j).toNat :=
  forLoop_workFrame_hasErr_sym c o s _

/-- Only a WORK that is performed and consumes a symbol other than 0 and 1 raises SYM. -/
theorem exec_raises_sym {i : Instr} {s t : State} (h : exec i s = .next t) (h0 : s.hasErr .sym = false)
    (h1 : t.hasErr .sym = true) :
    ∃ eof c, i = .work eof ∧ s.mode = .active ∧ s.code = some c ∧ inRange s.params (s.workOps eof) = true ∧
      ∃ j, j < c.k.toNat * frameCount c (s.workOps eof) ∧ 1 < (workSymbol s (s.workOps eof) j).toNat := by
  rcases exec_cases h with ⟨e, he, rfl⟩ | ⟨-, -, rfl⟩ | ⟨cls, rate, -, -, rfl⟩ | ⟨eof, c, hi, hm, hc, hr, rfl⟩
  · have hsym : (s.raise e).hasErr .sym = true := h1
    rcases he with rfl | rfl | rfl <;> simp [h0] at hsym
  · exact absurd (h0.symm.trans h1) (by decide)
  · exact absurd (h0.symm.trans h1) (by decide)
  · have hsym := (work_hasErr_sym s c (s.workOps eof)).1 h1
    exact ⟨eof, c, hi, hm, hc, hr, hsym.resolve_left (by simp [h0])⟩

/-- Settles O10: the write clears SYM where it comes after; where it comes before, the WORK consumes the same symbols
and raises SYM again. -/
theorem errWriteAndCompletionInEitherOrder : Obligations.ErrWriteAndCompletionInEitherOrder := by
  intro s t i v hexec h0 h1 hv
  refine ⟨?_, ?_⟩
  · have hbit : v.getLsbD ErrBit.sym.code = true := hv
    simp [writeErr_hasErr, hbit]
  · obtain ⟨eof, c, rfl, hm, hc, hr, hbad⟩ := exec_raises_sym hexec h0 h1
    exact ⟨_, exec_work_of_active (s := s.writeErr v) hm hc hr, (work_hasErr_sym (s.writeErr v) c _).2 (.inr hbad)⟩

/-! ## What only reset leaves (60_exceptions.md R216) -/

theorem raise_keeps_hasErr {s : State} {e : ErrBit} (e' : ErrBit) (he : s.hasErr e = true) :
    (s.raise e').hasErr e = true := by
  rw [raise_hasErr, he, Bool.true_or]

/-- No command clears an error. -/
theorem exec_keeps_hasErr {i : Instr} {s t : State} {e : ErrBit} (h : exec i s = .next t) (he : s.hasErr e = true) :
    t.hasErr e = true := by
  rcases exec_cases h with ⟨e', -, rfl⟩ | ⟨-, -, rfl⟩ | ⟨cls, rate, -, -, rfl⟩ | ⟨eof, c, -, -, -, -, rfl⟩
  · exact raise_keeps_hasErr e' he
  · exact he
  · exact he
  · change (workFrames c (s.workOps eof) s).hasErr e = true
    by_cases hsym : e = .sym
    · subst hsym
      exact (work_hasErr_sym s c _).2 (.inl he)
    · rw [workFrames_hasErr c _ s hsym, he]

/-- In FAULT a command is turned away, or is NOP. -/
theorem exec_keeps_fault {i : Instr} {s t : State} (h : exec i s = .next t) (hm : s.mode = .fault) :
    t.mode = .fault := by
  rcases exec_cases h with ⟨e, -, rfl⟩ | ⟨-, -, rfl⟩ | ⟨cls, rate, -, hready, -⟩ | ⟨eof, c, -, hactive, -⟩
  · exact hm
  · exact hm
  · simp [hm] at hready
  · simp [hm] at hactive

/-- BUILD clears no error. -/
theorem build_keeps_hasErr {s : State} {e : ErrBit} (he : s.hasErr e = true) : (build s).hasErr e = true := by
  rcases buildFrom_cases allFamilies s with ⟨g, hg⟩ | ⟨g, hg⟩ <;> rw [build, hg]
  · exact he
  · exact raise_keeps_hasErr .table he

theorem accept_keeps_hasErr {s : State} {e : ErrBit} (v : Word) (he : s.hasErr e = true) :
    (accept v s).hasErr e = true := by
  rcases accept_cases v s with ⟨e', -, h⟩ | ⟨i, -, -, -, -, h⟩ <;> rw [h]
  · exact raise_keeps_hasErr e' he
  · exact he

/-- No read clears an error (20_memory.md R66). -/
theorem hostRead_keeps_hasErr {p : Place} {w : Width} {s : State} {e : ErrBit}
    (h : placeAdmitted s.params w p = true) (he : s.hasErr e = true) : (hostRead p w s).hasErr e = true := by
  rcases hostRead_cases h with ⟨v, n, hr⟩ | ⟨-, v, n, hr⟩ | ⟨-, hr⟩ <;> rw [hr] <;> exact he

/-- No write clears TABLE: a write of ERR spares it, and every other write clears no error (10_state.md R29). -/
theorem hostWrite_keeps_table {p : Place} {w : Width} {s : State} (v : Word) (h : placeAdmitted s.params w p = true)
    (he : s.hasErr .table = true) : (hostWrite p w v s).hasErr .table = true := by
  rcases hostWrite_cases v h with hw | hw | ⟨ib, ia, ob, os, hw⟩ | ⟨-, hw⟩ | ⟨a, bs, -, hw⟩ | ⟨a, bs, -, hw⟩ <;> rw [hw]
  case inl => exact accept_keeps_hasErr v he
  case inr.inl => simp [writeErr_hasErr, he]
  all_goals exact he

theorem step_host_keeps_table {s t : State} (h : step s = .next t) (hturn : s.turn = .host)
    (he : s.hasErr .table = true) : t.hasErr .table = true := by
  rcases step_host_cases h hturn with ⟨-, rfl⟩ | ⟨p, w, ha, rfl⟩ | ⟨p, w, v, ha, rfl⟩ | ⟨done, rfl⟩
  · exact he
  · exact hostRead_keeps_hasErr (s := s.popTurn.popOp) ha he
  · exact hostWrite_keeps_table (s := s.popTurn.popOp) v ha he
  · rw [pollStatus_eq]; exact he

/-- Settles O11: in FAULT the engine has only commands to perform, and the host changes no MODE; the engine clears no
error, and the host does not clear TABLE. -/
theorem faultLeftOnlyByReset : Obligations.FaultLeftOnlyByReset := by
  intro s t h hreset
  cases hturn : s.turn with
  | reset => exact absurd hturn hreset
  | engine =>
    rcases step_engine_cases h hturn with ⟨p, -, he⟩ | ⟨-, hinit, rfl⟩ | ⟨-, -, rfl⟩
    · exact ⟨exec_keeps_fault (s := s.popTurn) he, exec_keeps_hasErr (s := s.popTurn) he⟩
    · exact ⟨fun hm => by simp [hinit] at hm, build_keeps_hasErr (s := s.popTurn)⟩
    · exact ⟨id, id⟩
  | host => exact ⟨(step_host_frame h hturn).mode.trans, step_host_keeps_table h hturn⟩

end Sys2Proof.Machine
end

section
/-! PROOF. Reset (70_reset_and_hazards.md R240, R246): what the reset input leaves (O56), and the start that BUILD's
first step after it reaches (O22). -/

namespace Sys2Proof.Machine

open Sys2Proof.Safety

/-! ## The reset input (10_state.md R51) -/

/-- Every register shows fields that the reset input puts at their reset values (10_state.md R24). -/
theorem regValue_applyReset (s : State) (r : Reg) : regValue s.applyReset r = regValue State.reset r := by
  cases r <;> rfl

/-- Settles O56: the step is State.applyReset, whose fields are reset values, the ROM and the parameters. -/
theorem resetInputRestoresResetState : Obligations.ResetInputRestoresResetState := by
  intro s hturn
  exact ⟨_, step_reset hturn, rfl, rfl, rfl, rfl, rfl, rfl, rfl, rfl, rfl, regValue_applyReset _⟩

/-! ## BUILD right after reset (42_generator_table.md R130; 70_reset_and_hazards.md R246) -/

/-- The reset state of a machine with another ROM and other parameters. -/
def State.resetWith (rom : Rom) (p : Params) : State := { State.reset with rom := rom, params := p }

/-- The reset state with BUILD done: in IDLE, with the words g in GEN. -/
def State.builtWith (rom : Rom) (p : Params) (g : GenStore) : State :=
  { State.resetWith rom p with mode := .idle, gen := g }

/-- No turn is given at reset, so the engine moves first, and its work is BUILD (log entries 2 and 3). -/
theorem step_resetWith (rom : Rom) (p : Params) :
    step (.resetWith rom p) = .next (build (.resetWith rom p)) := rfl

/-- BUILD from reset ends in IDLE where every family builds, with each family's words in GEN. -/
theorem build_resetWith {rom : Rom} {p : Params}
    (h : ∀ f, buildFamily p.maxLen f (rom.factors.get f) ≠ none) :
    ∃ g, build (.resetWith rom p) = .builtWith rom p g ∧
      ∀ f, buildFamily p.maxLen f (rom.factors.get f) = some (g.get f) := by
  have hidle : (build (.resetWith rom p)).mode = .idle := (build_idle_iff _).2 h
  rcases build_cases (.resetWith rom p) with ⟨-, hb⟩ | ⟨hm, -⟩
  · exact ⟨_, hb, build_idle_gen hidle⟩
  · exact absurd hidle hm

/-- STATUS shows MODE = IDLE and no flag. -/
theorem statusWord_builtWith (rom : Rom) (p : Params) (g : GenStore) :
    statusWord (.builtWith rom p g) = 0x00000001 := by
  simp [statusWord, State.builtWith, State.resetWith, State.reset, State.busy, State.errAny, flagAt, Mode.code]

/-- BUILD changes no register but STATUS. -/
theorem regValue_builtWith (rom : Rom) (p : Params) (g : GenStore) {r : Reg} (hr : r ≠ .status) :
    regValue (.builtWith rom p g) r = regValue State.reset r := by
  cases r with
  | status => exact absurd rfl hr
  | _ => rfl

/-- MAXLEN is at least 193 (00_scope.md R10). -/
theorem maxLen_of_params_wf {p : Params} {table : List ConfigEntry} (h : p.wf table = true) : 193 ≤ p.maxLen := by
  simp only [Params.wf, Bool.and_eq_true, decide_eq_true_eq] at h
  exact h.1.1.2

/-- Settles O22: the reference families build for every MAXLEN that R10 admits, the medium family by the hypothesis. -/
theorem cleanStartFollowsReset : Obligations.CleanStartFollowsReset := by
  intro m12 p hp ⟨ws, hm12⟩
  obtain ⟨hn12, hn10, hn8, hs12⟩ := referenceGeneratorWords p.maxLen (maxLen_of_params_wf hp)
  obtain ⟨g, hbuild, hgen⟩ := build_resetWith (p := p)
    (rom := { factors := factorsWithMedium m12, config := referenceConfig }) fun f => by
      cases f with
      | n12 => exact ne_of_eq_of_ne hn12 (Option.some_ne_none _)
      | n10 => exact ne_of_eq_of_ne hn10 (Option.some_ne_none _)
      | n8 => exact ne_of_eq_of_ne hn8 (Option.some_ne_none _)
      | s12 => exact ne_of_eq_of_ne hs12 (Option.some_ne_none _)
      | m12 => exact ne_of_eq_of_ne hm12 (Option.some_ne_none _)
  refine ⟨_, (step_resetWith _ p).trans (congrArg _ hbuild), ?_⟩
  exact {
    mode := rfl
    status := statusWord_builtWith _ p g
    err := rfl
    pend := rfl
    code := rfl
    registers := fun _ => regValue_builtWith _ p g
    config := rfl
    factors := ⟨m12, rfl, hgen .m12⟩
    genN12 := Option.some.inj ((hgen .n12).symm.trans hn12)
    genN10 := Option.some.inj ((hgen .n10).symm.trans hn10)
    genN8 := Option.some.inj ((hgen .n8).symm.trans hn8)
    genS12 := Option.some.inj ((hgen .s12).symm.trans hs12)
    haz := rfl
    buffers := ⟨rfl, rfl⟩
    windows := rfl
    admitted := rfl
    params := hp }

end Sys2Proof.Machine
end

section
/-! PROOF. The buffer hazard (70_reset_and_hazards.md R251 to R253): which accesses are breaches, and that HAZ is set by
these alone (O53). -/

namespace Sys2Proof.Machine

open Sys2Proof.Safety

/-! ## Breaches (70_reset_and_hazards.md R252) -/

/-- One byte in common with the input window of an open WORK makes a write of IBUF a breach. -/
theorem breachesInput_of_mem {s : State} {o : WorkOps} {a n x : Nat} (ho : Pending.work o ∈ s.unpolled)
    (hx : o.inBase.toNat ≤ x ∧ x < o.inBase.toNat + o.inAvail.toNat) (hlo : a ≤ x) (hhi : x < a + n) :
    breachesInput s a n = true := by
  by_contra h
  exact breachesInput_eq_false_iff.1 (Bool.eq_false_iff.2 h) o x ho hlo hhi hx

/-- One byte in common with the output window of an open WORK makes an access of OBUF a breach. -/
theorem breachesOutput_of_mem {s : State} {o : WorkOps} {a n x : Nat} (ho : Pending.work o ∈ s.unpolled)
    (hx : o.outBase.toNat ≤ x ∧ x < o.outBase.toNat + o.outSpace.toNat) (hlo : a ≤ x) (hhi : x < a + n) :
    breachesOutput s a n = true := by
  by_contra h
  exact breachesOutput_eq_false_iff.1 (Bool.eq_false_iff.2 h) o x ho hlo hhi hx

theorem hostWrite_ibuf_of_breach {s : State} {w : Width} {a : BitVec 32}
    (ha : bufAdmitted s.params.ibufBytes a w = true) (hb : breachesInput s a.toNat w.bytes = true) (v : Word) :
    hostWrite (.ibuf a) w v s = s.setHaz := by
  rw [hostWrite, hostWriteIbuf, if_pos ha, if_pos hb]

theorem hostWrite_obuf_of_breach {s : State} {w : Width} {a : BitVec 32}
    (ha : bufAdmitted s.params.obufBytes a w = true) (hb : breachesOutput s a.toNat w.bytes = true) (v : Word) :
    hostWrite (.obuf a) w v s = s.setHaz := by
  rw [hostWrite, hostWriteObuf, if_pos ha, if_pos hb]

theorem hostRead_obuf_of_breach {s : State} {w : Width} {a : BitVec 32}
    (ha : bufAdmitted s.params.obufBytes a w = true) (hb : breachesOutput s a.toNat w.bytes = true) :
    hostRead (.obuf a) w s = (s.setHaz.pushResult (leWord (freeBytes w.bytes s.draws))).advanceDraws w.bytes := by
  rw [hostRead, hostReadObuf, if_pos ha, if_pos hb]

/-! ## Accesses that leave HAZ (70_reset_and_hazards.md R253) -/

theorem clearOfInputs_of_apart {s : State} {a n : Nat} (h : ∀ o, Pending.work o ∈ s.unpolled →
    a + n ≤ o.inBase.toNat ∨ o.inBase.toNat + o.inAvail.toNat ≤ a) : ClearOfInputs s a n := by
  intro o x ho hlo hhi
  have := h o ho
  omega

theorem clearOfOutputs_of_apart {s : State} {a n : Nat} (h : ∀ o, Pending.work o ∈ s.unpolled →
    a + n ≤ o.outBase.toNat ∨ o.outBase.toNat + o.outSpace.toNat ≤ a) : ClearOfOutputs s a n := by
  intro o x ho hlo hhi
  have := h o ho
  omega

/-- No hazard window forbids a read of IBUF. -/
theorem hostRead_ibuf_haz (a : BitVec 32) (w : Width) (s : State) : (hostRead (.ibuf a) w s).haz = s.haz := by
  rw [hostRead]
  rcases hostReadIbuf_cases a w s with h | ⟨v, h⟩ <;> rw [h] <;> rfl

theorem hostWrite_ibuf_haz_of_clear {s : State} {w : Width} {a : BitVec 32}
    (hc : ClearOfInputs s a.toNat w.bytes) (v : Word) : (hostWrite (.ibuf a) w v s).haz = s.haz := by
  rw [hostWrite, hostWriteIbuf, breachesInput_eq_false_iff.2 hc]
  split <;> rfl

theorem hostWrite_obuf_haz_of_clear {s : State} {w : Width} {a : BitVec 32}
    (hc : ClearOfOutputs s a.toNat w.bytes) (v : Word) : (hostWrite (.obuf a) w v s).haz = s.haz := by
  rw [hostWrite, hostWriteObuf, breachesOutput_eq_false_iff.2 hc]
  split <;> rfl

theorem hostRead_obuf_haz_of_clear {s : State} {w : Width} {a : BitVec 32}
    (hc : ClearOfOutputs s a.toNat w.bytes) : (hostRead (.obuf a) w s).haz = s.haz := by
  rw [hostRead, hostReadObuf, breachesOutput_eq_false_iff.2 hc]
  split <;> rfl

/-- Settles O53: an access that has a byte in common with an open window is a breach, and one apart from all is clear
of them. -/
theorem breachSetsHaz : Obligations.BreachSetsHaz := by
  intro s w a v
  refine ⟨fun o x ho h1 h2 hlo hhi ha => ?_, fun o x ho h1 h2 hlo hhi ha => ?_, hostRead_ibuf_haz a w s,
    fun h => hostWrite_ibuf_haz_of_clear (clearOfInputs_of_apart h) v, fun h => ?_⟩
  · exact hostWrite_ibuf_of_breach ha (breachesInput_of_mem ho ⟨h1, h2⟩ hlo hhi) v
  · have hb := breachesOutput_of_mem ho ⟨h1, h2⟩ hlo hhi
    exact ⟨hostWrite_obuf_of_breach ha hb v, _, hostRead_obuf_of_breach ha hb⟩
  · have hc := clearOfOutputs_of_apart h
    exact ⟨hostWrite_obuf_haz_of_clear hc v, hostRead_obuf_haz_of_clear hc⟩

end Sys2Proof.Machine
end

section
/-! PROOF. A pending command completes, or a reset abandons it (70_reset_and_hazards.md R240, R255; O59): the host's
turns leave it pending, and the first other turn ends it. -/

namespace Sys2Proof.Machine

open Sys2Proof.Safety

/-! ## The host's turns while a command is pending -/

/-- The model refuses no admitted operation (20_memory.md R62, R63). -/
theorem step_host_next {s : State} (hturn : s.turn = .host)
    (hops : ∀ op ∈ s.hostOps, opAdmitted s.params op = true) : ∃ t, step s = .next t := by
  have hstep : step s = hostMove .model s.popTurn := by simp only [step, hturn, hostStep]
  rw [hstep]
  rcases h : s.popTurn.hostOps with _ | ⟨op, ops⟩
  · exact ⟨_, by rw [hostMove, h]⟩
  have hop : opAdmitted s.params op = true := hops op (h ▸ List.mem_cons_self)
  cases op with
  | read tg w =>
    obtain ⟨p, hl, ha⟩ := (Option.any_eq_true _ _).1 hop
    exact ⟨_, (hostMove_read h hl).trans (hostAccess_eq_next_iff.2 ⟨.inr ha, rfl⟩)⟩
  | write tg w v =>
    obtain ⟨p, hl, ha⟩ := (Option.any_eq_true _ _).1 hop
    exact ⟨_, (hostMove_write h hl).trans (hostAccess_eq_next_iff.2 ⟨.inr ha, rfl⟩)⟩
  | poll => exact ⟨_, by rw [hostMove, h]⟩
  | waitInit => exact ⟨_, by rw [hostMove, h]⟩

/-- An admitted read ends no command, and no operation but its own. -/
theorem hostRead_keeps_pend {pl : Place} {w : Width} {s : State} (h : placeAdmitted s.params w pl = true) :
    (hostRead pl w s).pend = s.pend ∧ (hostRead pl w s).hostOps = s.hostOps := by
  rcases hostRead_cases h with ⟨v, n, e⟩ | ⟨-, v, n, e⟩ | ⟨-, e⟩ <;> rw [e] <;> exact ⟨rfl, rfl⟩

/-- With a command pending no admitted write presents another one: acceptance turns it away (30_encoding.md R86). -/
theorem hostWrite_keeps_pend {pl : Place} {w : Width} {s : State} (v : Word) (hp : s.pend ≠ none)
    (h : placeAdmitted s.params w pl = true) :
    (hostWrite pl w v s).pend = s.pend ∧ (hostWrite pl w v s).hostOps = s.hostOps := by
  rcases hostWrite_cases v h with e | e | ⟨ib, ia, ob, os, e⟩ | ⟨-, e⟩ | ⟨a, bs, -, e⟩ | ⟨a, bs, -, e⟩ <;> rw [e]
  case inl => rw [accept_of_not_ready (.inr hp)]; exact ⟨rfl, rfl⟩
  all_goals exact ⟨rfl, rfl⟩

theorem pollStatus_keeps_pend (done : Bool) (s : State) :
    (pollStatus done s).pend = s.pend ∧ (pollStatus done s).hostOps ⊆ s.hostOps := by
  rw [pollStatus_eq]
  cases done
  · exact ⟨rfl, List.Subset.refl _⟩
  · exact ⟨rfl, List.tail_subset _⟩

/-- The host's turn leaves a pending command, and what the host has still to do, it had to do before. -/
theorem step_host_keeps_pend {s t : State} (h : step s = .next t) (hturn : s.turn = .host) (hp : s.pend ≠ none) :
    t.pend = s.pend ∧ t.hostOps ⊆ s.hostOps := by
  rcases step_host_cases h hturn with ⟨-, rfl⟩ | ⟨pl, w, ha, rfl⟩ | ⟨pl, w, v, ha, rfl⟩ | ⟨done, rfl⟩
  · exact ⟨rfl, List.Subset.refl _⟩
  · obtain ⟨hpend, hops⟩ := hostRead_keeps_pend (s := s.popTurn.popOp) ha
    exact ⟨hpend, hops ▸ List.tail_subset _⟩
  · obtain ⟨hpend, hops⟩ := hostWrite_keeps_pend (s := s.popTurn.popOp) v hp ha
    exact ⟨hpend, hops ▸ List.tail_subset _⟩
  · exact pollStatus_keeps_pend done s.popTurn

/-! ## Runs -/

theorem run_cons {M : Host.Core} {m : Nat} {s t u : M.State} (hs : M.step s = .next t) (h : M.run m t = .next u) :
    M.run (m + 1) s = .next u := by
  rw [Host.Core.run, hs]
  exact h

/-- A run may be made one step longer at its end. -/
theorem run_concat {M : Host.Core} {m : Nat} {s u v : M.State} (h : M.run m s = .next u) (hu : M.step u = .next v) :
    M.run (m + 1) s = .next v := by
  induction m generalizing s with
  | zero =>
    obtain rfl : s = u := Host.Outcome.next.inj h
    exact run_cons hu rfl
  | succ m ih =>
    obtain ⟨t, hs, ht⟩ := run_succ_eq_next h
    exact run_cons hs (ih ht)

/-- With a command pending the host moves only on a turn that it is given (log entry 2). -/
theorem sched_of_host_turn {s : State} {p : Pending} (hp : s.pend = some p) (hturn : s.turn = .host) :
    ∃ ts, s.sched = .host :: ts := by
  rcases hs : s.sched with _ | ⟨t, ts⟩
  · simp [State.turn, hs, State.engineHasWork, State.busy, hp] at hturn
  · obtain rfl : t = .host := by simpa [State.turn, hs] using hturn
    exact ⟨ts, rfl⟩

/-- With a command pending and the host's operations admitted, the host's given turns come to an end with the command
still pending. -/
theorem run_to_other_turn {s : State} {p : Pending} (hp : s.pend = some p)
    (hops : ∀ op ∈ s.hostOps, opAdmitted s.params op = true) :
    ∃ m u, m ≤ s.sched.length ∧ Host.Core.run core m s = .next u ∧ u.pend = some p ∧ u.turn ≠ .host ∧
      u.sched ⊆ s.sched := by
  induction hn : s.sched.length generalizing s with
  | zero =>
    refine ⟨0, s, le_refl _, rfl, hp, fun hturn => ?_, List.Subset.refl _⟩
    obtain ⟨ts, hs⟩ := sched_of_host_turn hp hturn
    simp [hs] at hn
  | succ n ih =>
    by_cases hturn : s.turn = .host
    · obtain ⟨t, hstep⟩ := step_host_next hturn hops
      obtain ⟨htp, hto⟩ := step_host_keeps_pend hstep hturn (by simp [hp])
      have hparams : t.params = s.params := (step_host_frame hstep hturn).params
      have hsched := step_sched hstep
      obtain ⟨m, u, hm, hrun, hup, hut, hus⟩ :=
        ih (htp.trans hp) (fun op hop => hparams ▸ hops op (hto hop)) (by simp [hsched, hn])
      exact ⟨m + 1, u, by omega, run_cons (M := core) hstep hrun, hup, hut,
        List.Subset.trans (hsched ▸ hus) (List.tail_subset _)⟩
    · exact ⟨0, s, Nat.zero_le _, rfl, hp, hturn, List.Subset.refl _⟩

/-! ## The turn that ends the command -/

theorem exec_pend {i : Instr} {s t : State} (h : exec i s = .next t) : t.pend = none :=
  congrArg State.pend (exec_changes h)

/-- On its turn the engine performs the pending command, and that ends it (30_encoding.md R87). -/
theorem step_engine_ends_pend {s : State} {p : Pending} (hturn : s.turn = .engine) (hp : s.pend = some p) :
    ∃ t, exec p.instr s.popTurn = .next t ∧ step s = .next t ∧ t.pend = none := by
  obtain ⟨t, ht⟩ := exec_next p.instr s.popTurn
  exact ⟨t, ht, (step_engine_pending hturn hp).trans ht, exec_pend ht⟩

/-- Settles O59: a run to the first turn that is not the host's, and one step more. -/
theorem everyPendingCommandCompletes : Obligations.EveryPendingCommandCompletes := by
  intro s p hp hops
  obtain ⟨m, u, hm, hrun, hup, huhost, hus⟩ := run_to_other_turn hp hops
  cases hturn : u.turn with
  | host => exact absurd hturn huhost
  | engine =>
    obtain ⟨t, hexec, hstep, ht⟩ := step_engine_ends_pend hturn hup
    have hrun' := run_concat (M := core) hrun hstep
    exact ⟨fun _ => ⟨m, u, t, hm, hrun, hup, hturn, hexec, hrun', ht⟩, m + 1, t, by omega, hrun', ht⟩
  | reset =>
    have hgiven : Turn.reset ∈ s.sched := by
      by_contra hr
      exact turn_ne_reset (fun hmem => hr (hus hmem)) hturn
    exact ⟨fun hr => absurd hgiven hr, m + 1, _, by omega, run_concat (M := core) hrun (step_reset hturn), rfl⟩

end Sys2Proof.Machine
end
